-- ==== Sys2Proof/Word.lean ====
section
/-! DEFINITION. The word type of the register window (spec/10_state.md R23: all registers are 32 bits wide) and the type of a
sample. -/

namespace Sys2Proof

/-- A 32-bit register or bus word. -/
abbrev Word := BitVec 32

/-- The pattern of a value of the sample format `F` (spec/00_scope.md R8): all 64 bits with binary64, the low 32 bits, the
rest zero, with binary32. -/
abbrev Sample := BitVec 64

/-- One byte lane of a word on a byte-addressed bus (spec/20_memory.md R52). -/
abbrev Byte := BitVec 8

end Sys2Proof
end

