-- ==== Sys2Proof/Syntax.lean ====
section
/-! DEFINITION. The fifteen commands (spec/30_encoding.md R71, R72, spec/opcode_table.json), one constructor a row. -/

namespace Sys2Proof

/-- A plane register number, `p0` to `p31` (spec/10_state.md R21). -/
abbrev PlaneReg := Fin 32

/-- A token register number, `tk0` to `tk3` (spec/10_state.md R39). -/
abbrev TokenReg := Fin 4

/-- The resolution tag (spec/10_state.md R34), values 0 to 3 in this order. -/
inductive Tag where
  | fullsize
  | downsample
  | dcdiff
  | zigzag
  deriving DecidableEq, Repr

/-- A command. Operands in assembler order (spec/30_encoding.md R78): destination first, then sources. In `csc`, `mest`
and `delta` each operand is the base of a triple (R17), at most 29: see `Instr.wellFormed`. -/
inductive Instr where
  | nop
  | csc (d a : PlaneReg)
  | lpf (d a : PlaneReg)
  | mest (a b : PlaneReg)
  | delta (d a b : PlaneReg)
  | subs (d a : PlaneReg)
  | dct (d a : PlaneReg)
  | quant (d a : PlaneReg)
  | dcpred (d a : PlaneReg)
  | zigzag (d a : PlaneReg)
  | tokens (t : TokenReg) (a : PlaneReg)
  | copy (d a : PlaneReg)
  | pdef (d : PlaneReg) (tag : Tag)
  | frame
  | endseq
  deriving DecidableEq, Repr

end Sys2Proof
end

