-- ==== Sys2Proof/WellFormed.lean ====
section
/-! DEFINITION. Which terms of `Instr` are commands (spec/30_encoding.md R71, R73). -/

namespace Sys2Proof

/-- A triple base names `P[i], P[i+1], P[i+2]`, so it is at most 29 (spec/00_scope.md R17). -/
def PlaneReg.isTripleBase (i : PlaneReg) : Bool := i.val ≤ 29

/-- The range conditions of the formats `DA3`, `AB3` and `DAB3` (spec/30_encoding.md R71). Every other range condition is
carried by the operand types. -/
def Instr.wellFormed : Instr → Bool
  | .nop => true
  | .csc d a => PlaneReg.isTripleBase d && PlaneReg.isTripleBase a
  | .lpf _ _ => true
  | .mest a b => PlaneReg.isTripleBase a && PlaneReg.isTripleBase b
  | .delta d a b => PlaneReg.isTripleBase d && PlaneReg.isTripleBase a && PlaneReg.isTripleBase b
  | .subs _ _ => true
  | .dct _ _ => true
  | .quant _ _ => true
  | .dcpred _ _ => true
  | .zigzag _ _ => true
  | .tokens _ _ => true
  | .copy _ _ => true
  | .pdef _ _ => true
  | .frame => true
  | .endseq => true

end Sys2Proof
end

