-- ==== Sys2Proof/Decode.lean ====
section
/-! DEFINITION. The command decoder, total on every 32-bit word and rejecting by name (spec/30_encoding.md R70 to R74),
and after it the encoder. -/

namespace Sys2Proof

/-- Why a command word is illegal (the causes of spec/30_encoding.md R73). The engine records one code for all of them. -/
inductive IllegalWord where
  /-- `op` is 0x0F..0xFF -/
  | opcode
  /-- bits 31:23 are not all zero -/
  | highBits
  /-- a field the format requires to be zero is not zero -/
  | mustBeZero
  /-- a triple base is 30 or 31 -/
  | tripleBase
  /-- `d[4:2]` is not 0 in `TOKENS` -/
  | tokenField
  /-- `a[4:2]` is not 0 in `PDEF` -/
  | tagField
  deriving DecidableEq, Repr

/-- `v[lo+len-1:lo]` as an unsigned integer (spec/00_scope.md R6). -/
def slice (v : Word) (lo len : Nat) : Nat := v.toNat / 2 ^ lo % 2 ^ len

/-- The tag with value `n mod 4` (spec/10_state.md R34). -/
def Tag.ofCode (n : Nat) : Tag :=
  match n % 4 with
  | 0 => .fullsize
  | 1 => .downsample
  | 2 => .dcdiff
  | _ => .zigzag

/-- The value of a tag (spec/10_state.md R34). -/
def Tag.code : Tag → Nat
  | .fullsize => 0
  | .downsample => 1
  | .dcdiff => 2
  | .zigzag => 3

/-- The plane register a 5-bit field names. -/
def planeOf (n : Nat) : PlaneReg := Fin.ofNat 32 n

/-- Format `Z`: no operand (spec/30_encoding.md R71). -/
def decodeZ (d a b : Nat) (i : Instr) : Except IllegalWord Instr :=
  if d = 0 ∧ a = 0 ∧ b = 0 then .ok i else .error .mustBeZero

/-- Format `DA`: destination plane, source plane. -/
def decodeDA (d a b : Nat) (i : PlaneReg → PlaneReg → Instr) : Except IllegalWord Instr :=
  if b = 0 then .ok (i (planeOf d) (planeOf a)) else .error .mustBeZero

/-- Format `DA3`: destination triple, source triple. -/
def decodeDA3 (d a b : Nat) (i : PlaneReg → PlaneReg → Instr) : Except IllegalWord Instr :=
  if b ≠ 0 then .error .mustBeZero
  else if d ≤ 29 ∧ a ≤ 29 then .ok (i (planeOf d) (planeOf a)) else .error .tripleBase

/-- Format `AB3`: reference triple, target triple. -/
def decodeAB3 (d a b : Nat) (i : PlaneReg → PlaneReg → Instr) : Except IllegalWord Instr :=
  if d ≠ 0 then .error .mustBeZero
  else if a ≤ 29 ∧ b ≤ 29 then .ok (i (planeOf a) (planeOf b)) else .error .tripleBase

/-- Format `DAB3`: destination, reference and target triples. -/
def decodeDAB3 (d a b : Nat) (i : PlaneReg → PlaneReg → PlaneReg → Instr) : Except IllegalWord Instr :=
  if d ≤ 29 ∧ a ≤ 29 ∧ b ≤ 29 then .ok (i (planeOf d) (planeOf a) (planeOf b)) else .error .tripleBase

/-- Format `TA`: token register in `d[1:0]`, source plane. -/
def decodeTA (d a b : Nat) (i : TokenReg → PlaneReg → Instr) : Except IllegalWord Instr :=
  if b ≠ 0 then .error .mustBeZero
  else if d < 4 then .ok (i (Fin.ofNat 4 d) (planeOf a)) else .error .tokenField

/-- Format `DT`: destination plane, tag in `a[1:0]`. -/
def decodeDT (d a b : Nat) (i : PlaneReg → Tag → Instr) : Except IllegalWord Instr :=
  if b ≠ 0 then .error .mustBeZero
  else if a < 4 then .ok (i (planeOf d) (Tag.ofCode a)) else .error .tagField

/-- The decoder: the opcode map of spec/30_encoding.md R72 over the fields of R70. It reads the word alone (R74). -/
def decode (c : Word) : Except IllegalWord Instr :=
  let d := slice c 8 5
  let a := slice c 13 5
  let b := slice c 18 5
  if slice c 23 9 ≠ 0 then .error .highBits
  else match slice c 0 8 with
    | 0x00 => decodeZ d a b .nop
    | 0x01 => decodeDA3 d a b .csc
    | 0x02 => decodeDA d a b .lpf
    | 0x03 => decodeAB3 d a b .mest
    | 0x04 => decodeDAB3 d a b .delta
    | 0x05 => decodeDA d a b .subs
    | 0x06 => decodeDA d a b .dct
    | 0x07 => decodeDA d a b .quant
    | 0x08 => decodeDA d a b .dcpred
    | 0x09 => decodeDA d a b .zigzag
    | 0x0A => decodeTA d a b .tokens
    | 0x0B => decodeDA d a b .copy
    | 0x0C => decodeDT d a b .pdef
    | 0x0D => decodeZ d a b .frame
    | 0x0E => decodeZ d a b .endseq
    | _ => .error .opcode

/-- `word = op | d << 8 | a << 13 | b << 18` (spec/30_encoding.md R70), the fields being disjoint. -/
def packFields (op d a b : Nat) : Word := BitVec.ofNat 32 (op + d * 2 ^ 8 + a * 2 ^ 13 + b * 2 ^ 18)

/-- The command word of a command (spec/30_encoding.md R70 to R72). On a term that is not well-formed it is the illegal
word with the same fields. -/
def encode : Instr → Word
  | .nop => packFields 0x00 0 0 0
  | .csc d a => packFields 0x01 d a 0
  | .lpf d a => packFields 0x02 d a 0
  | .mest a b => packFields 0x03 0 a b
  | .delta d a b => packFields 0x04 d a b
  | .subs d a => packFields 0x05 d a 0
  | .dct d a => packFields 0x06 d a 0
  | .quant d a => packFields 0x07 d a 0
  | .dcpred d a => packFields 0x08 d a 0
  | .zigzag d a => packFields 0x09 d a 0
  | .tokens t a => packFields 0x0A t a 0
  | .copy d a => packFields 0x0B d a 0
  | .pdef d tag => packFields 0x0C d tag.code 0
  | .frame => packFields 0x0D 0 0 0
  | .endseq => packFields 0x0E 0 0 0

/-- The command the decoder reads from the `nbits` low bits of `w`, the bits above being 0. A command word is the data of
one `CMD` write (spec/20_memory.md R64): there is no byte sequence to lay out. -/
def decodeTableWord (nbits w : Nat) : Option Instr :=
  match decode (BitVec.ofNat 32 (w % 2 ^ nbits)) with
  | .ok i => some i
  | .error _ => none

end Sys2Proof
end

