-- ==== Sys2Proof/Config.lean ====
section
/-! DEFINITION. What an implementation fixes (the open parameters of spec/00_scope.md R5) and the free values
(spec/93_implementation_defined.md part 1, treatment "any value"). The parameters' default tables stand in
Machine/Tables.lean. -/

namespace Sys2Proof

/-- `F` (spec/00_scope.md R5, R8): the sample number format, one of the two the spec speaks of. -/
inductive SampleFormat where
  | binary32
  | binary64
  deriving DecidableEq, Repr

/-- `ROUND_TIES` (spec/00_scope.md R5, R11): the tie rule of `fround`. -/
inductive RoundTies where
  | away
  | even
  deriving DecidableEq, Repr

/-- `LPF_VPASS` (spec/41_chroma_lowpass.md R97): what the smoother's vertical pass reads above a sample. -/
inductive LpfVpass where
  | buffered
  | inPlace
  deriving DecidableEq, Repr

/-- `MEST_TIE` (spec/42_motion_estimator.md R103): which of equal-cost candidates wins. -/
inductive MestTie where
  | first
  | last
  deriving DecidableEq, Repr

/-- `DCD_LAYOUT` (spec/46_dc_predictor.md R131): where each DC difference is stored. -/
inductive DcdLayout where
  | traversal
  | spatial
  deriving DecidableEq, Repr

/-- The open parameters of spec/00_scope.md R5 (log entry 5; `BASE`: log entry 7). The tables are
row-major lists of patterns in the format: entry `8*r + c` of `qmat` is `QMAT[r][c]`, entry `8*i + k` of `cos` is
`COS[i][k]`. -/
structure Params where
  /-- `F`. -/
  format : SampleFormat
  /-- `QMAT`, 64 values of `F` (spec/45_quantizer.md R126). -/
  qmat : List Sample
  /-- `ZZ`, 64 raster indices (spec/47_zigzag.md R135). -/
  zz : List Nat
  /-- `COS`, 64 values of `F` (spec/44_dct.md R119). -/
  cos : List Sample
  /-- `CN`, 8 values of `F` (spec/44_dct.md R119). -/
  cn : List Sample
  /-- `PLANE_CAP`, the largest sample count of one plane. -/
  planeCap : Nat
  roundTies : RoundTies
  lpfVpass : LpfVpass
  mestTie : MestTie
  dcdLayout : DcdLayout
  deriving DecidableEq, Repr

/-- A parameter setting of the shape spec/00_scope.md R5, R15 and spec/47_zigzag.md R135 ask for: tables of the stated
sizes, `ZZ` a permutation of 0..63, `PLANE_CAP < 2^32`. -/
abbrev Params.wf (p : Params) : Prop :=
  p.qmat.length = 64 ∧ p.zz.Perm (List.range 64) ∧ p.cos.length = 64 ∧ p.cn.length = 8 ∧ p.planeCap < 2 ^ 32

/-- The arithmetic primitives that can produce a NaN (spec/00_scope.md R9, R14). -/
inductive FloatOp where
  | add
  | sub
  | mul
  | div
  | round
  | ceil
  deriving DecidableEq, Repr

/-- The word that a data read outside the valid range returns (spec/20_memory.md R59 to R61, U1 to U3): free, one value
for each draw taken. Log entry 3. -/
opaque Config.drawnWord : Nat → Word

/-- Sign (bit 63) and payload (low bits) of a NaN that an arithmetic primitive produces (spec/00_scope.md R14, U6): free,
for each draw number, primitive and operands. Log entry 4. -/
opaque Config.nanDraw : Nat → FloatOp → Sample → Sample → BitVec 64

/-- The window word of a sample that is no binary32 value, which only `F` = binary64 has: spec/00_scope.md R9 gives `fbits`
32 bits and does not state them. Free, for each sample. Log entry 6. -/
opaque Config.narrowed : Sample → Word

end Sys2Proof
end

