-- ==== Sys2Proof/Machine/Float.lean ====
section
/-! DEFINITION. The arithmetic primitives on patterns of the sample format `F`, binary32 or binary64 (spec/00_scope.md R8 to
R14), and the crossing of samples to and from 32-bit words.

A finite value is an integer multiple of the format's smallest subnormal: `units` is that integer. Each operation computes
the exact result as a ratio of naturals in that unit and rounds it once. -/

namespace Sys2Proof

/-! ## The two formats (spec/00_scope.md R8) -/

/-- How many bits a pattern has. -/
def SampleFormat.width : SampleFormat → Nat
  | .binary32 => 32
  | .binary64 => 64

/-- How many fraction bits. -/
def SampleFormat.fracBits : SampleFormat → Nat
  | .binary32 => 23
  | .binary64 => 52

/-- The weight of the sign bit. -/
def SampleFormat.signPlace : SampleFormat → Nat
  | .binary32 => 2 ^ 31
  | .binary64 => 2 ^ 63

/-- The magnitude pattern of an infinity: exponent all ones, fraction 0. -/
def SampleFormat.infMag : SampleFormat → Nat
  | .binary32 => 0x7F800000
  | .binary64 => 0x7FF0000000000000

/-- How many smallest subnormals make 1. -/
def SampleFormat.unitsOne : SampleFormat → Nat
  | .binary32 => 2 ^ 149
  | .binary64 => 2 ^ 1074

/-- A literal of a rule, given as its two patterns. -/
def SampleFormat.pick (f : SampleFormat) (b32 : BitVec 32) (b64 : BitVec 64) : Sample :=
  match f with
  | .binary32 => b32.setWidth 64
  | .binary64 => b64

namespace Machine

/-! ## Fields of a pattern (spec/00_scope.md R8, R9) -/

/-- The sign bit. -/
def fsign (f : SampleFormat) (a : Sample) : Bool := decide (f.signPlace ≤ a.toNat)

/-- The bits below the sign. -/
def fmag (f : SampleFormat) (a : Sample) : Nat :=
  if f.signPlace ≤ a.toNat then a.toNat - f.signPlace else a.toNat

/-- The exponent field. -/
def fexpo (f : SampleFormat) (a : Sample) : Nat := fmag f a / 2 ^ f.fracBits

/-- The fraction field. -/
def ffrac (f : SampleFormat) (a : Sample) : Nat := fmag f a % 2 ^ f.fracBits

def isNaN (f : SampleFormat) (a : Sample) : Bool := decide (f.infMag < fmag f a)

def isInf (f : SampleFormat) (a : Sample) : Bool := fmag f a == f.infMag

def isFinite (f : SampleFormat) (a : Sample) : Bool := decide (fmag f a < f.infMag)

/-- The magnitude of a finite value in smallest subnormals: the fraction for a subnormal, else the significand shifted by the
exponent. -/
def units (f : SampleFormat) (a : Sample) : Nat :=
  if fexpo f a = 0 then ffrac f a else (2 ^ f.fracBits + ffrac f a) * 2 ^ (fexpo f a - 1)

/-- A finite value in smallest subnormals. -/
def sunits (f : SampleFormat) (a : Sample) : Int := if fsign f a then -(units f a : Int) else (units f a : Int)

/-- A pattern from its sign and magnitude pattern. -/
def packFloat (f : SampleFormat) (neg : Bool) (mag : Nat) : Sample :=
  BitVec.ofNat 64 (if neg then f.signPlace + mag else mag)

/-- The sign bit flipped. -/
def fneg (f : SampleFormat) (a : Sample) : Sample := packFloat f (!fsign f a) (fmag f a)

/-! ## Rounding -/

/-- `num/den` rounded to the nearest integer, ties to even. -/
def roundEven (num den : Nat) : Nat :=
  let q := num / den
  let r := num % den
  if 2 * r < den then q
  else if den < 2 * r then q + 1
  else if q % 2 = 0 then q else q + 1

/-- `num/den` rounded to the nearest integer, ties away from zero. -/
def roundAway (num den : Nat) : Nat := (2 * num + den) / (2 * den)

/-- The magnitude pattern of `num/den` units rounded once, to nearest, ties to even (spec/00_scope.md R9). The spacing of
the format at that magnitude is `2^k` units; a carry out of the significand moves into the exponent field by the
addition, and what lies beyond the largest finite value is infinity. -/
def roundMag (f : SampleFormat) (num den : Nat) : Nat :=
  let k := Nat.log2 (num / den) - f.fracBits
  min (k * 2 ^ f.fracBits + roundEven num (den * 2 ^ k)) f.infMag

/-- The value of `F` nearest to the non-negative rational `num/den` (`K("lit")`, spec/00_scope.md R10). -/
def ofRat (f : SampleFormat) (num den : Nat) : Sample :=
  packFloat f false (roundMag f (num * f.unitsOne) den)

/-! ## NaN -/

/-- What the arithmetic of a command runs in: the format, and the draw number its NaNs are drawn at (log entry 4). -/
structure Arith where
  format : SampleFormat
  draw : Nat
  deriving DecidableEq, Repr

/-- The quiet NaN with sign `p[63]` and the low bits of `p` as its payload. -/
def quietNaN (f : SampleFormat) (p : BitVec 64) : Sample :=
  packFloat f (decide (2 ^ 63 ≤ p.toNat))
    (f.infMag + 2 ^ (f.fracBits - 1) + p.toNat % 2 ^ (f.fracBits - 1))

/-- The NaN a primitive produces: some quiet NaN (spec/00_scope.md R14). Log entry 4. -/
def drawNaN (n : Arith) (op : FloatOp) (a b : Sample) : Sample := quietNaN n.format (Config.nanDraw n.draw op a b)

/-! ## The primitives (spec/00_scope.md R9) -/

/-- The sum of two patterns neither of which is a NaN; `op` names the primitive for the draw of `Inf - Inf`. -/
def addNonNaN (n : Arith) (op : FloatOp) (a b : Sample) : Sample :=
  let f := n.format
  if isInf f a then (if isInf f b && fsign f a != fsign f b then drawNaN n op a b else a)
  else if isInf f b then b
  else
    let z := sunits f a + sunits f b
    if z = 0 then packFloat f (fsign f a && fsign f b) 0
    else packFloat f (decide (z < 0)) (roundMag f z.natAbs 1)

/-- `fadd(a,b)`. -/
def fadd (n : Arith) (a b : Sample) : Sample :=
  if isNaN n.format a || isNaN n.format b then drawNaN n .add a b else addNonNaN n .add a b

/-- `fsub(a,b)`. -/
def fsub (n : Arith) (a b : Sample) : Sample :=
  if isNaN n.format a || isNaN n.format b then drawNaN n .sub a b else addNonNaN n .sub a (fneg n.format b)

/-- `fmul(a,b)`. -/
def fmul (n : Arith) (a b : Sample) : Sample :=
  let f := n.format
  let neg := fsign f a != fsign f b
  if isNaN f a || isNaN f b then drawNaN n .mul a b
  else if isInf f a || isInf f b then
    (if fmag f a = 0 || fmag f b = 0 then drawNaN n .mul a b else packFloat f neg f.infMag)
  else packFloat f neg (roundMag f (units f a * units f b) f.unitsOne)

/-- `fdiv(a,b)`. -/
def fdiv (n : Arith) (a b : Sample) : Sample :=
  let f := n.format
  let neg := fsign f a != fsign f b
  if isNaN f a || isNaN f b then drawNaN n .div a b
  else if isInf f a then (if isInf f b then drawNaN n .div a b else packFloat f neg f.infMag)
  else if isInf f b then packFloat f neg 0
  else if units f b = 0 then
    (if units f a = 0 then drawNaN n .div a b else packFloat f neg f.infMag)
  else packFloat f neg (roundMag f (units f a * f.unitsOne) (units f b))

/-- `fabs(a)`: the sign bit cleared, NaN patterns included. -/
def fabs (f : SampleFormat) (a : Sample) : Sample := packFloat f false (fmag f a)

/-- The place of a value that is not a NaN in the order of values: both zeros at 0. -/
def orderKey (f : SampleFormat) (a : Sample) : Int := if fsign f a then -(fmag f a : Int) else (fmag f a : Int)

/-- `flt(a,b)`. -/
def flt (f : SampleFormat) (a b : Sample) : Bool :=
  !isNaN f a && !isNaN f b && decide (orderKey f a < orderKey f b)

/-- `feq(a,b)`. -/
def feq (f : SampleFormat) (a b : Sample) : Bool :=
  !isNaN f a && !isNaN f b && decide (orderKey f a = orderKey f b)

/-- `fround(a)` (spec/00_scope.md R11), the tie rule being the parameter `ROUND_TIES`. -/
def fround (n : Arith) (ties : RoundTies) (a : Sample) : Sample :=
  let f := n.format
  if isNaN f a then drawNaN n .round a a
  else if isInf f a then a
  else
    let m := match ties with
      | .away => roundAway (units f a) f.unitsOne
      | .even => roundEven (units f a) f.unitsOne
    packFloat f (fsign f a) (roundMag f (m * f.unitsOne) 1)

/-- `fceil(a)` (spec/00_scope.md R12). -/
def fceil (n : Arith) (a : Sample) : Sample :=
  let f := n.format
  if isNaN f a then drawNaN n .ceil a a
  else if isInf f a then a
  else
    let one := f.unitsOne
    let m := if fsign f a then units f a / one else (units f a + (one - 1)) / one
    packFloat f (fsign f a) (roundMag f (m * one) 1)

/-! ## Words of the window (spec/00_scope.md R9, spec/30_encoding.md R75)

With binary32 a sample and its word have the same bits. With binary64 a word is the binary64 value equal to it; the word
of a binary64 value that equals no binary32 value is free (log entry 6). -/

/-- How many smallest subnormals of binary64 make one of binary32: `2^(1074-149)`. -/
def unitRatio : Nat := 2 ^ 925

/-- How many fraction bits binary64 has more. -/
def fracRatio : Nat := 2 ^ 29

/-- The binary64 pattern of a binary32 pattern: the same value, a NaN with its payload left-aligned. -/
def widen (w : Word) : Sample :=
  let a : Sample := w.setWidth 64
  packFloat .binary64 (fsign .binary32 a)
    (if isFinite .binary32 a then roundMag .binary64 (units .binary32 a * unitRatio) 1
     else SampleFormat.infMag .binary64 + (fmag .binary32 a - SampleFormat.infMag .binary32) * fracRatio)

/-- The binary32 pattern nearest to a binary64 pattern. -/
def nearest32 (a : Sample) : Word :=
  (packFloat .binary32 (fsign .binary64 a)
    (if isFinite .binary64 a then roundMag .binary32 (units .binary64 a) unitRatio
     else SampleFormat.infMag .binary32 + (fmag .binary64 a - SampleFormat.infMag .binary64) / fracRatio)).setWidth 32

/-- `ffrom(bits)`. -/
def ffrom (f : SampleFormat) (w : Word) : Sample :=
  match f with
  | .binary32 => w.setWidth 64
  | .binary64 => widen w

/-- `fbits(a)`. -/
def fbits (f : SampleFormat) (a : Sample) : Word :=
  match f with
  | .binary32 => a.setWidth 32
  | .binary64 => if widen (nearest32 a) = a then nearest32 a else Config.narrowed a

/-! ## The constants of spec/00_scope.md R10 -/

def kPosZero : Sample := 0
def k0_299 (f : SampleFormat) : Sample := f.pick 0x3E991687 0x3FD322D0E5604189
def k0_587 (f : SampleFormat) : Sample := f.pick 0x3F1645A2 0x3FE2C8B439581062
def k0_113 (f : SampleFormat) : Sample := f.pick 0x3DE76C8B 0x3FBCED916872B021
def k0_168736 (f : SampleFormat) : Sample := f.pick 0x3E2CC921 0x3FC5992428D434A0
def k0_331264 (f : SampleFormat) : Sample := f.pick 0x3EA99B6F 0x3FD5336DEB95E5B0
def k0_418688 (f : SampleFormat) : Sample := f.pick 0x3ED65E46 0x3FDACBC8C0CE91C9
def k0_081312 (f : SampleFormat) : Sample := f.pick 0x3DA686E8 0x3FB4D0DCFCC5B8DC
def k0_5 (f : SampleFormat) : Sample := f.pick 0x3F000000 0x3FE0000000000000
def k0_25 (f : SampleFormat) : Sample := f.pick 0x3E800000 0x3FD0000000000000
def k128 (f : SampleFormat) : Sample := f.pick 0x43000000 0x4060000000000000

end Machine

end Sys2Proof
end

