-- ==== Sys2Proof/Machine/Tables.lean ====
section
/-! DEFINITION. The default values of the open parameters (spec/00_scope.md R5). -/

namespace Sys2Proof.Machine

open Sys2Proof

/-- `QMAT`, spec/45_quantizer.md R126, rows r = 0..7. -/
def defaultQmatSteps : List Nat :=
  [16, 11, 10, 16, 24, 40, 51, 61,
   12, 12, 14, 19, 26, 58, 60, 55,
   14, 13, 16, 24, 40, 57, 69, 56,
   14, 17, 22, 29, 51, 87, 80, 62,
   18, 22, 37, 56, 68, 109, 103, 77,
   24, 35, 55, 64, 81, 104, 113, 92,
   49, 64, 78, 87, 103, 121, 120, 101,
   72, 92, 95, 98, 112, 100, 103, 99]

/-- `ZZ`, spec/47_zigzag.md R135. -/
def defaultZz : List Nat :=
  [0, 1, 8, 16, 9, 2, 3, 10,
   17, 24, 32, 25, 18, 11, 4, 5,
   12, 19, 26, 33, 40, 48, 41, 34,
   27, 20, 13, 6, 7, 14, 21, 28,
   35, 42, 49, 56, 57, 50, 43, 36,
   29, 22, 15, 23, 30, 37, 44, 51,
   58, 59, 52, 45, 38, 31, 39, 46,
   53, 60, 61, 54, 47, 55, 62, 63]

/-- `COS` in binary32, spec/44_dct.md R119, rows i = 0..7. -/
def cos32 : List (BitVec 32) :=
  [0x3F800000, 0x3F7B14BE, 0x3F6C835E, 0x3F54DB31, 0x3F3504F3, 0x3F0E39DA, 0x3EC3EF15, 0x3E47C5C2,
   0x3F800000, 0x3F54DB31, 0x3EC3EF15, 0xBE47C5C2, 0xBF3504F3, 0xBF7B14BE, 0xBF6C835E, 0xBF0E39DA,
   0x3F800000, 0x3F0E39DA, 0xBEC3EF15, 0xBF7B14BE, 0xBF3504F3, 0x3E47C5C2, 0x3F6C835E, 0x3F54DB31,
   0x3F800000, 0x3E47C5C2, 0xBF6C835E, 0xBF0E39DA, 0x3F3504F3, 0x3F54DB31, 0xBEC3EF15, 0xBF7B14BE,
   0x3F800000, 0xBE47C5C2, 0xBF6C835E, 0x3F0E39DA, 0x3F3504F3, 0xBF54DB31, 0xBEC3EF15, 0x3F7B14BE,
   0x3F800000, 0xBF0E39DA, 0xBEC3EF15, 0x3F7B14BE, 0xBF3504F3, 0xBE47C5C2, 0x3F6C835E, 0xBF54DB31,
   0x3F800000, 0xBF54DB31, 0x3EC3EF15, 0x3E47C5C2, 0xBF3504F3, 0x3F7B14BE, 0xBF6C835E, 0x3F0E39DA,
   0x3F800000, 0xBF7B14BE, 0x3F6C835E, 0xBF54DB31, 0x3F3504F3, 0xBF0E39DA, 0x3EC3EF15, 0xBE47C5C2]

/-- `COS` in binary64, by the same definition: entry `8*i + k` is nearest to `cos((2*i + 1) * k * pi / 16)`. -/
def cos64 : List (BitVec 64) :=
  [0x3FF0000000000000, 0x3FEF6297CFF75CB0, 0x3FED906BCF328D46, 0x3FEA9B66290EA1A3,
   0x3FE6A09E667F3BCD, 0x3FE1C73B39AE68C8, 0x3FD87DE2A6AEA963, 0x3FC8F8B83C69A60B,
   0x3FF0000000000000, 0x3FEA9B66290EA1A3, 0x3FD87DE2A6AEA963, 0xBFC8F8B83C69A60B,
   0xBFE6A09E667F3BCD, 0xBFEF6297CFF75CB0, 0xBFED906BCF328D46, 0xBFE1C73B39AE68C8,
   0x3FF0000000000000, 0x3FE1C73B39AE68C8, 0xBFD87DE2A6AEA963, 0xBFEF6297CFF75CB0,
   0xBFE6A09E667F3BCD, 0x3FC8F8B83C69A60B, 0x3FED906BCF328D46, 0x3FEA9B66290EA1A3,
   0x3FF0000000000000, 0x3FC8F8B83C69A60B, 0xBFED906BCF328D46, 0xBFE1C73B39AE68C8,
   0x3FE6A09E667F3BCD, 0x3FEA9B66290EA1A3, 0xBFD87DE2A6AEA963, 0xBFEF6297CFF75CB0,
   0x3FF0000000000000, 0xBFC8F8B83C69A60B, 0xBFED906BCF328D46, 0x3FE1C73B39AE68C8,
   0x3FE6A09E667F3BCD, 0xBFEA9B66290EA1A3, 0xBFD87DE2A6AEA963, 0x3FEF6297CFF75CB0,
   0x3FF0000000000000, 0xBFE1C73B39AE68C8, 0xBFD87DE2A6AEA963, 0x3FEF6297CFF75CB0,
   0xBFE6A09E667F3BCD, 0xBFC8F8B83C69A60B, 0x3FED906BCF328D46, 0xBFEA9B66290EA1A3,
   0x3FF0000000000000, 0xBFEA9B66290EA1A3, 0x3FD87DE2A6AEA963, 0x3FC8F8B83C69A60B,
   0xBFE6A09E667F3BCD, 0x3FEF6297CFF75CB0, 0xBFED906BCF328D46, 0x3FE1C73B39AE68C8,
   0x3FF0000000000000, 0xBFEF6297CFF75CB0, 0x3FED906BCF328D46, 0xBFEA9B66290EA1A3,
   0x3FE6A09E667F3BCD, 0xBFE1C73B39AE68C8, 0x3FD87DE2A6AEA963, 0xBFC8F8B83C69A60B]

/-- `COS` in the format. -/
def defaultCos : SampleFormat → List Sample
  | .binary32 => cos32.map fun w => w.setWidth 64
  | .binary64 => cos64

/-- `CN`, spec/44_dct.md R119: the value nearest to `1/sqrt(2)`, then seven times 1. -/
def defaultCn (f : SampleFormat) : List Sample :=
  f.pick 0x3F3504F3 0x3FE6A09E667F3BCD :: List.replicate 7 (f.pick 0x3F800000 0x3FF0000000000000)

/-- `QMAT` in the format. -/
def defaultQmat (f : SampleFormat) : List Sample := defaultQmatSteps.map fun n => ofRat f n 1

/-- The defaults of spec/00_scope.md R5 for a sample format. -/
def paramsOf (f : SampleFormat) : Params where
  format := f
  qmat := defaultQmat f
  zz := defaultZz
  cos := defaultCos f
  cn := defaultCn f
  planeCap := 4194304
  roundTies := .away
  lpfVpass := .buffered
  mestTie := .first
  dcdLayout := .traversal

/-- The defaults of spec/00_scope.md R5. -/
def defaultParams : Params := paramsOf .binary32

end Sys2Proof.Machine
end

