-- ==== Sys2Proof/Machine/State.lean ====
section
/-! DEFINITION. The complete state of the engine (spec/10_state.md R20), the host's accesses it answers, the reasons a
step can stop, and the state after reset (R43). -/

namespace Sys2Proof.Machine

open Sys2Proof

/-- The state of a plane register (spec/10_state.md R35). -/
inductive PlaneState where
  | empty
  | loading
  | valid
  deriving DecidableEq, Repr

/-- A plane register (spec/10_state.md R33). `data` holds the samples written so far, row-major; sample storage that is
not observable is not held (log entry 9). -/
structure Plane where
  state : PlaneState
  w : Nat
  h : Nat
  tag : Tag
  fill : Nat
  data : List Sample
  deriving DecidableEq, Repr

/-- An `EMPTY` plane, every field at its reset value (spec/10_state.md R43). -/
def Plane.empty : Plane := { state := .empty, w := 0, h := 0, tag := .fullsize, fill := 0, data := [] }

/-- A motion vector (spec/10_state.md R37): `dx` columns, `dy` rows. -/
structure MotionVec where
  dx : Int
  dy : Int
  deriving DecidableEq, Repr

/-- The motion-vector buffer `MVB` (spec/10_state.md R37). `valid` is also `STATUS.MVVALID` (R25). -/
structure MvBuffer where
  valid : Bool
  w : Nat
  h : Nat
  count : Nat
  vec : List MotionVec
  deriving DecidableEq, Repr

/-- `MVB` after reset (spec/10_state.md R43). -/
def MvBuffer.empty : MvBuffer := { valid := false, w := 0, h := 0, count := 0, vec := [] }

/-- A token register (spec/10_state.md R39). -/
structure TokenBuf where
  valid : Bool
  len : Nat
  word : List Word
  deriving DecidableEq, Repr

/-- A token register after reset (spec/10_state.md R43). -/
def TokenBuf.empty : TokenBuf := { valid := false, len := 0, word := [] }

/-- The codes of `STATUS.ERR` (spec/60_exceptions.md R157), values 0 to 8 in this order. `backend` is reserved and never
raised (R168). -/
inductive FaultCode where
  | none
  | illegal
  | unwritten
  | tag
  | shape
  | config
  | resource
  | load
  | backend
  deriving DecidableEq, Repr

/-- `STATUS.FTYPE` (spec/10_state.md R25): the type of the last completed `FRAME`. -/
inductive FrameType where
  | iFrame
  | pFrame
  deriving DecidableEq, Repr

/-- The registers of the window (spec/10_state.md R23). -/
inductive Reg where
  | id
  | status
  | ctrl
  | cmd
  | width
  | height
  | quality
  | ifreq
  | block
  | window
  | frameidx
  | cmdcount
  | fcmd
  | psel
  | pw
  | ph
  | pinfo
  | paddr
  | pdata
  | pfill
  | mvinfo
  | mvaddr
  | mvdata
  | tksel
  | tkinfo
  | tkaddr
  | tkdata
  deriving DecidableEq, Repr

/-- What the outside does to the engine: a bus access of `size` bytes at byte `offset` from `BASE` (spec/20_memory.md R50,
R53), or the hardware reset signal (spec/70_reset_and_hazards.md R176). -/
inductive HostEvent where
  | read (offset size : Nat)
  | write (offset size : Nat) (v : Word)
  | hardReset
  deriving DecidableEq, Repr

/-- What the bus answered to the last access. The MODEL's own type (log entry 2). -/
inductive BusReply where
  /-- no access yet, or a hardware reset since -/
  | idle
  /-- a write completed -/
  | done
  /-- a read completed with this word -/
  | data (v : Word)
  /-- the access was not an aligned 32-bit access inside the window (spec/20_memory.md R53) -/
  | busError
  deriving DecidableEq, Repr

/-- Why a step stops the machine: never. The engine's own fault (spec/60_exceptions.md R158) is state and a next state; a
malformed bus access is answered with a bus error and changes nothing (spec/20_memory.md R53), a next state too; and no
arithmetic faults (R169). -/
inductive Fault where
  deriving DecidableEq, Repr

/-- Why a step refuses. -/
inductive Refusal where
  /-- Raised by `exec` for a command that has no meaning yet, of which there is none. Safe: nothing is claimed of it. -/
  | notModelled (mnemonic : String)
  deriving DecidableEq, Repr

/-- The state: what spec/10_state.md R43 lists, and four fields of the model's own (`params`, `host`, `reply`, `draws`).
`STATUS.MVVALID` is `mvb.valid`. -/
structure State where
  /-- `STATUS.FAULT` -/
  fault : Bool
  /-- `STATUS.HAVE_PREV` -/
  havePrev : Bool
  /-- `STATUS.FTYPE` -/
  ftype : FrameType
  /-- `STATUS.ERR` -/
  err : FaultCode
  /-- `WIDTH` -/
  width : Word
  /-- `HEIGHT` -/
  height : Word
  /-- `QUALITY`, a binary32 pattern whatever the sample format -/
  quality : Word
  /-- `IFREQ` -/
  ifreq : Word
  /-- `FRAMEIDX` -/
  frameIdx : Word
  /-- `CMDCOUNT` -/
  cmdCount : Word
  /-- `FCMD` -/
  fcmd : Word
  /-- `PSEL[4:0]` -/
  psel : PlaneReg
  /-- `PADDR` -/
  paddr : Word
  /-- `MVADDR` -/
  mvaddr : Word
  /-- `TKSEL[1:0]` -/
  tksel : TokenReg
  /-- `TKADDR` -/
  tkaddr : Word
  /-- `P[0..31]` -/
  planes : Vector Plane 32
  /-- `MVB` -/
  mvb : MvBuffer
  /-- `TK[0..3]` -/
  tokens : Vector TokenBuf 4
  /-- The open parameters, configuration and not a register: no step changes it (spec/10_state.md R42, log entry 5). -/
  params : Params
  /-- The host's accesses still to be made, in program order (spec/20_memory.md R62, log entry 1). -/
  host : List HostEvent
  /-- The bus's answer to the last access (log entry 2). -/
  reply : BusReply
  /-- How many draws of free values have been taken (log entries 3 and 4). -/
  draws : Nat
  deriving DecidableEq, Repr

/-- The machine right after reset: the table of spec/10_state.md R43, the default parameters (R5), and the host having
made no access (log entry 1). -/
def State.reset : State where
  fault := false
  havePrev := false
  ftype := .iFrame
  err := .none
  width := 0
  height := 0
  quality := 0
  ifreq := 0
  frameIdx := 0
  cmdCount := 0
  fcmd := 0
  psel := 0
  paddr := 0
  mvaddr := 0
  tksel := 0
  tkaddr := 0
  planes := Vector.replicate 32 Plane.empty
  mvb := MvBuffer.empty
  tokens := Vector.replicate 4 TokenBuf.empty
  params := defaultParams
  host := []
  reply := .idle
  draws := 0

end Sys2Proof.Machine
end

