-- ==== Sys2Proof/Machine/Ops.lean ====
section
/-! DEFINITION. The named operations on the state: planes, token registers and `MVB`, the fault and the return from it
(reset), and the frame every command runs in. -/

namespace Sys2Proof.Machine

open Sys2Proof

/-! ## Reading and building planes -/

/-- `P[i]` (spec/10_state.md R33). Register numbers reaching here are below 32. -/
def State.plane (s : State) (i : Nat) : Plane := s.planes[i]?.getD Plane.empty

/-- The sample at column `x`, row `y`: `data[y*w + x]` (spec/00_scope.md R7). -/
def Plane.sample (p : Plane) (x y : Nat) : Sample := p.data.getD (y * p.w + x) kPosZero

/-- The sample of index `k`. -/
def Plane.nth (p : Plane) (k : Nat) : Sample := p.data.getD k kPosZero

/-- A `VALID` plane whose sample of index `k` is `f k`, all fields written at once (spec/10_state.md R33). -/
def Plane.buildIdx (w h : Nat) (tag : Tag) (f : Nat → Sample) : Plane where
  state := .valid
  w := w
  h := h
  tag := tag
  fill := w * h
  data := (List.range (w * h)).map f

/-- A `VALID` plane whose sample at column `x`, row `y` is `f x y`. -/
def Plane.build (w h : Nat) (tag : Tag) (f : Nat → Nat → Sample) : Plane :=
  Plane.buildIdx w h tag fun k => f (k % w) (k / w)

/-- `P[i] <- p`. -/
def State.setPlane (s : State) (i : Nat) (p : Plane) : State :=
  { s with planes := s.planes.setIfInBounds i p }

/-- `P[i], P[i+1], P[i+2] <- p, q, r` (a frame operand, spec/00_scope.md R17). -/
def State.setTriple (s : State) (i : Nat) (p q r : Plane) : State :=
  ((s.setPlane i p).setPlane (i + 1) q).setPlane (i + 2) r

/-- `P[i..i+n-1] <- EMPTY`. -/
def State.emptyPlanes (s : State) (i : Nat) : Nat → State
  | 0 => s
  | n + 1 => (s.emptyPlanes i n).setPlane (i + n) Plane.empty

/-! ## Token registers and the motion-vector buffer -/

/-- `TK[t]` (spec/10_state.md R39). Register numbers reaching here are below 4. -/
def State.token (s : State) (t : Nat) : TokenBuf := s.tokens[t]?.getD TokenBuf.empty

/-- `TK[t] <- b`. -/
def State.setToken (s : State) (t : Nat) (b : TokenBuf) : State :=
  { s with tokens := s.tokens.setIfInBounds t b }

/-- `TK[t].valid <- 0`. -/
def State.invalidateToken (s : State) (t : Nat) : State := s.setToken t { s.token t with valid := false }

/-- `MVB <- b`, and with it `STATUS.MVVALID <- b.valid` (spec/10_state.md R25). -/
def State.setMvb (s : State) (b : MvBuffer) : State := { s with mvb := b }

/-- `MVB.valid <- 0; STATUS.MVVALID <- 0`. -/
def State.invalidateMvb (s : State) : State := s.setMvb { s.mvb with valid := false }

/-! ## Free values -/

/-- The draw number of the state is used up: what follows draws afresh (log entries 3 and 4). -/
def State.nextDraw (s : State) : State := { s with draws := s.draws + 1 }

/-- The arithmetic of the command run in this state: the parameter `F` and the state's draw number. -/
def State.arith (s : State) : Arith := { format := s.params.format, draw := s.draws }

/-! ## The fault, and the way out of it -/

/-- `raise Fault(code)` with `c` the command word, 0 for a `PDATA` write: three fields and nothing else
(spec/60_exceptions.md R158). -/
def State.raiseFault (s : State) (code : FaultCode) (c : Word) : State :=
  { s with fault := true, err := code, fcmd := c }

/-- Reset (spec/70_reset_and_hazards.md R176), the only recovery from a fault (spec/60_exceptions.md R162): the engine at
the values of `State.reset`. The parameters, the host's accesses, the bus's answer and the draw counter are not state of
the engine and stay. -/
def State.engineReset (s : State) : State :=
  { State.reset with params := s.params, host := s.host, reply := s.reply, draws := s.draws }

/-! ## Running a command -/

/-- The code of the first check that fails, checks given in the order tested (spec/60_exceptions.md R159). -/
def firstFailure : List (Bool × FaultCode) → Option FaultCode
  | [] => none
  | (passes, code) :: rest => if passes then firstFailure rest else some code

/-- `CMDCOUNT <- CMDCOUNT + 1`, modulo 2^32 (spec/10_state.md R32). -/
def State.countCommand (s : State) : State := { s with cmdCount := s.cmdCount + 1 }

/-- The check of decoding: a term whose word is illegal raises `ILLEGAL` before any state is consulted
(spec/30_encoding.md R73, R74; log entry 13). -/
def legalWord (i : Instr) : Bool × FaultCode := (i.wellFormed, .illegal)

/-- A command: ignored while the engine is halted (spec/60_exceptions.md R161); otherwise all its checks are made on the
state before it, the first that fails is recorded with the command word and nothing else changes (R158, R160), and when
none fails the effect happens and the command counts (spec/10_state.md R32). -/
def runCommand (i : Instr) (checks : List (Bool × FaultCode)) (effect : State → State) (s : State) :
    Host.Outcome State Fault Refusal :=
  if s.fault then .next s
  else match firstFailure (legalWord i :: checks) with
    | some code => .next (s.raiseFault code (encode i))
    | none => .next (effect s).countCommand

end Sys2Proof.Machine
end

