-- ==== Sys2Proof/Machine/Operands.lean ====
section
/-! DEFINITION. The operand checks of spec/60_exceptions.md R167, each class tested over all operands of a command (R159),
and the plane geometry of spec/00_scope.md R16 to R18. -/

namespace Sys2Proof.Machine

open Sys2Proof

/-! ## The source planes of a command -/

/-- The planes of a frame operand (spec/00_scope.md R17). -/
def State.triple (s : State) (i : Nat) : List Plane := [s.plane i, s.plane (i + 1), s.plane (i + 2)]

/-- Every source plane is `VALID`. -/
def allValid (ps : List Plane) : Bool := ps.all fun p => p.state == .valid

/-- Every source plane has one of the tags accepted. -/
def allTagged (tags : List Tag) (ps : List Plane) : Bool := ps.all fun p => tags.contains p.tag

/-- Every source plane is `w` by `h`. -/
def allSized (w h : Nat) (ps : List Plane) : Bool := ps.all fun p => p.w == w && p.h == h

/-- The tags of spatial samples and coefficients: `FULLSIZE`, `DOWNSAMPLE`. -/
def spatialTags : List Tag := [.fullsize, .downsample]

/-- `w` and `h` are multiples of `n`. -/
def multipleOf (n : Nat) (p : Plane) : Bool := p.w % n == 0 && p.h % n == 0

/-- The three checks every stage of one 8x8-blocked plane makes: `DCT`, `QUANT`, `DCPRED`, `ZIGZAG`. -/
def blockedChecks (p : Plane) : List (Bool × FaultCode) :=
  [(allValid [p], .unwritten), (allTagged spatialTags [p], .tag), (multipleOf 8 p, .shape)]

/-- `Q`, the quality factor that the `QUALITY` pattern is (spec/45_quantizer.md R125). -/
def State.q (s : State) : Sample := ffrom s.params.format s.quality

/-- `Q` is finite and greater than zero (spec/10_state.md R29, spec/45_quantizer.md R125). -/
def legalQuality (s : State) : Bool := isFinite s.params.format s.q && flt s.params.format kPosZero s.q

/-! ## The searched macroblock grid (spec/00_scope.md R18) -/

/-- How many searched macroblocks fit along one dimension: `(dim - 32) div 16`, 0 below 32. -/
def gridCount (dim : Nat) : Nat := (dim - 32) / 16

/-- `nmb(w,h)`. -/
def nmb (w h : Nat) : Nat := gridCount w * gridCount h

/-- The top-left coordinate of the macroblock of grid index `g`. -/
def gridOrigin (g : Nat) : Nat := 16 + 16 * g

/-- The top-lefts `(mx, my)` of the searched macroblocks, `my` outer, `mx` inner. -/
def searchedGrid (w h : Nat) : List (Nat × Nat) :=
  (List.range (gridCount h)).flatMap fun gy =>
    (List.range (gridCount w)).map fun gx => (gridOrigin gx, gridOrigin gy)

/-- The number in raster order of the searched macroblock that holds sample `(x, y)`, if one does. -/
def macroblockAt (w h x y : Nat) : Option Nat :=
  let gx := (x - 16) / 16
  let gy := (y - 16) / 16
  if 16 ≤ x ∧ 16 ≤ y ∧ gx < gridCount w ∧ gy < gridCount h then some (gy * gridCount w + gx) else none

end Sys2Proof.Machine
end

