-- ==== Sys2Proof/Machine/Csc.lean ====
section
/-! DEFINITION. Color Converter, `CSC` (spec/40_color_convert.md). -/

namespace Sys2Proof.Machine

open Sys2Proof

/-- Y of one pixel (spec/40_color_convert.md R91). -/
def cscY (n : Arith) (r g b : Sample) : Sample :=
  let f := n.format
  fadd n (fadd n (fmul n (k0_299 f) r) (fmul n (k0_587 f) g)) (fmul n (k0_113 f) b)

/-- Cb of one pixel (spec/40_color_convert.md R91). -/
def cscCb (n : Arith) (r g b : Sample) : Sample :=
  let f := n.format
  fadd n (fsub n (fsub n (k128 f) (fmul n (k0_168736 f) r)) (fmul n (k0_331264 f) g)) (fmul n (k0_5 f) b)

/-- Cr of one pixel (spec/40_color_convert.md R91). -/
def cscCr (n : Arith) (r g b : Sample) : Sample :=
  let f := n.format
  fsub n (fsub n (fadd n (k128 f) (fmul n (k0_5 f) r)) (fmul n (k0_418688 f) g)) (fmul n (k0_081312 f) b)

/-- The checks of spec/40_color_convert.md R90. -/
def cscChecks (a : Nat) (s : State) : List (Bool × FaultCode) :=
  let ps := s.triple a
  [(allValid ps, .unwritten), (allTagged [.fullsize] ps, .tag),
   (allSized (s.plane a).w (s.plane a).h ps, .shape)]

/-- One output plane of the conversion: `f` of the three source samples at each index. -/
def cscPlane (f : Sample → Sample → Sample → Sample) (s : State) (a : Nat) : Plane :=
  Plane.buildIdx (s.plane a).w (s.plane a).h .fullsize fun k =>
    f ((s.plane a).nth k) ((s.plane (a + 1)).nth k) ((s.plane (a + 2)).nth k)

/-- The effect of spec/40_color_convert.md R90; the sources are read before any destination is written. -/
def cscEffect (d a : Nat) (s : State) : State :=
  (s.setTriple d (cscPlane (cscY s.arith) s a) (cscPlane (cscCb s.arith) s a)
    (cscPlane (cscCr s.arith) s a)).nextDraw

/-- `CSC pD, pA`. -/
def execCsc (d a : PlaneReg) (s : State) : Host.Outcome State Fault Refusal :=
  runCommand (.csc d a) (cscChecks a s) (cscEffect d a) s

end Sys2Proof.Machine
end

