-- ==== Sys2Proof/Machine/Dcpred.lean ====
section
/-! DEFINITION. DC Predictor, `DCPRED` (spec/46_dc_predictor.md). -/

namespace Sys2Proof.Machine

open Sys2Proof

/-- The DC of block number `k` of the traversal: block-columns outer, block-rows inner (spec/46_dc_predictor.md R130,
R131: `bx = k div nby`, `by = k mod nby`). -/
def dcOf (src : Plane) (k : Nat) : Sample := src.sample (8 * (k / (src.h / 8))) (8 * (k % (src.h / 8)))

/-- The value produced for block number `k` of the traversal: the first absolute, each later one minus its predecessor's
own DC (spec/46_dc_predictor.md R130). -/
def dcDiff (n : Arith) (src : Plane) (k : Nat) : Sample :=
  if k = 0 then dcOf src 0 else fsub n (dcOf src k) (dcOf src (k - 1))

/-- The traversal number of the block whose difference is stored at index `k` (spec/46_dc_predictor.md R131,
`DCD_LAYOUT`). -/
def dcdBlock (layout : DcdLayout) (src : Plane) (k : Nat) : Nat :=
  match layout with
  | .traversal => k
  | .spatial => k % (src.w / 8) * (src.h / 8) + k / (src.w / 8)

/-- The plane of DC differences. -/
def dcpredPlane (s : State) (a : Nat) : Plane :=
  Plane.buildIdx ((s.plane a).w / 8) ((s.plane a).h / 8) .dcdiff fun k =>
    dcDiff s.arith (s.plane a) (dcdBlock s.params.dcdLayout (s.plane a) k)

/-- The effect of spec/46_dc_predictor.md R130. -/
def dcpredEffect (d a : Nat) (s : State) : State := (s.setPlane d (dcpredPlane s a)).nextDraw

/-- `DCPRED pD, pA`. -/
def execDcpred (d a : PlaneReg) (s : State) : Host.Outcome State Fault Refusal :=
  runCommand (.dcpred d a) (blockedChecks (s.plane a)) (dcpredEffect d a) s

end Sys2Proof.Machine
end

