-- ==== Sys2Proof/Machine/Dct.lean ====
section
/-! DEFINITION. Block Transform, `DCT` (spec/44_dct.md). -/

namespace Sys2Proof.Machine

open Sys2Proof

/-- `COS[i][k]` (spec/44_dct.md R119). -/
def cosAt (p : Params) (i k : Nat) : Sample := p.cos.getD (8 * i + k) kPosZero

/-- `CN[k]` (spec/44_dct.md R119). -/
def cnAt (p : Params) (k : Nat) : Sample := p.cn.getD k kPosZero

/-- The positions `(x, y)` of an 8x8 block, rows outer, columns inner (spec/44_dct.md R121). -/
def blockRaster : List (Nat × Nat) :=
  (List.range 8).flatMap fun y => (List.range 8).map fun x => (x, y)

/-- `coef(s, u, v)` (spec/44_dct.md R121), `blk x y` being the level-shifted block. -/
def dctCoef (n : Arith) (p : Params) (blk : Nat → Nat → Sample) (u v : Nat) : Sample :=
  let acc := blockRaster.foldl
    (fun acc xy =>
      fadd n acc (fmul n (fmul n (blk xy.1 xy.2) (cosAt p xy.1 u)) (cosAt p xy.2 v)))
    kPosZero
  fmul n (fmul n (fmul n (k0_25 n.format) (cnAt p u)) (cnAt p v)) acc

/-- The source plane after the level shift (spec/44_dct.md R118, R120): state, dimensions and tag kept. -/
def dctShifted (s : State) (a : Nat) : Plane :=
  { s.plane a with
    data := (List.range ((s.plane a).w * (s.plane a).h)).map fun k => fsub s.arith ((s.plane a).nth k) (k128 s.params.format) }

/-- The coefficient plane (spec/44_dct.md R118): coefficient `(u, v)` of a block at its column `u`, row `v`. -/
def dctPlane (s : State) (a : Nat) : Plane :=
  Plane.build (s.plane a).w (s.plane a).h (s.plane a).tag fun x y =>
    dctCoef s.arith s.params
      (fun i j => fsub s.arith ((s.plane a).sample (8 * (x / 8) + i) (8 * (y / 8) + j)) (k128 s.params.format)) (x % 8) (y % 8)

/-- The effect of spec/44_dct.md R118: the source first, then the destination. -/
def dctEffect (d a : Nat) (s : State) : State :=
  ((s.setPlane a (dctShifted s a)).setPlane d (dctPlane s a)).nextDraw

/-- `DCT pD, pA`. -/
def execDct (d a : PlaneReg) (s : State) : Host.Outcome State Fault Refusal :=
  runCommand (.dct d a) (blockedChecks (s.plane a)) (dctEffect d a) s

end Sys2Proof.Machine
end

