-- ==== Sys2Proof/Machine/Delta.lean ====
section
/-! DEFINITION. Delta Builder, `DELTA`, and Chroma Subsampler, `SUBS` (spec/43_delta_subsample.md). -/

namespace Sys2Proof.Machine

open Sys2Proof

/-! ## Delta Builder -/

/-- The checks of spec/43_delta_subsample.md R110. -/
def deltaChecks (a b : Nat) (s : State) : List (Bool × FaultCode) :=
  let ps := s.triple a ++ s.triple b
  let w := (s.plane a).w
  let h := (s.plane a).h
  [(allValid ps && s.mvb.valid, .unwritten), (allTagged [.fullsize] ps, .tag),
   (allSized w h ps && s.mvb.w == w && s.mvb.h == h, .shape)]

/-- The vector number `k` of `MVB`. -/
def MvBuffer.nth (b : MvBuffer) (k : Nat) : MotionVec := b.vec.getD k { dx := 0, dy := 0 }

/-- One output sample (spec/43_delta_subsample.md R110, R111): inside a searched macroblock, target minus the reference
displaced by the macroblock's vector; elsewhere the target's own value. -/
def deltaSample (n : Arith) (mvb : MvBuffer) (reference target : Plane) (x y : Nat) : Sample :=
  match macroblockAt target.w target.h x y with
  | some k =>
    let v := mvb.nth k
    fsub n (target.sample x y) (reference.sample (x + v.dx).toNat (y + v.dy).toNat)
  | none => target.sample x y

/-- The output plane of channel `c`. -/
def deltaPlane (a b c : Nat) (s : State) : Plane :=
  Plane.build (s.plane (b + c)).w (s.plane (b + c)).h .fullsize
    (deltaSample s.arith s.mvb (s.plane (a + c)) (s.plane (b + c)))

/-- The effect of spec/43_delta_subsample.md R110. -/
def deltaEffect (d a b : Nat) (s : State) : State :=
  (s.setTriple d (deltaPlane a b 0 s) (deltaPlane a b 1 s) (deltaPlane a b 2 s)).nextDraw

/-- `DELTA pD, pA, pB`: destination, reference, target. -/
def execDelta (d a b : PlaneReg) (s : State) : Host.Outcome State Fault Refusal :=
  runCommand (.delta d a b) (deltaChecks a b s) (deltaEffect d a b) s

/-! ## Chroma Subsampler -/

/-- The checks of spec/43_delta_subsample.md R114. -/
def subsChecks (a : Nat) (s : State) : List (Bool × FaultCode) :=
  [(allValid [s.plane a], .unwritten), (allTagged [.fullsize] [s.plane a], .tag),
   (multipleOf 2 (s.plane a), .shape)]

/-- The subsampled plane. -/
def subsPlane (s : State) (a : Nat) : Plane :=
  Plane.build ((s.plane a).w / 2) ((s.plane a).h / 2) .downsample fun x y => (s.plane a).sample (2 * x) (2 * y)

/-- The effect of spec/43_delta_subsample.md R114. -/
def subsEffect (d a : Nat) (s : State) : State := s.setPlane d (subsPlane s a)

/-- `SUBS pD, pA`. -/
def execSubs (d a : PlaneReg) (s : State) : Host.Outcome State Fault Refusal :=
  runCommand (.subs d a) (subsChecks a s) (subsEffect d a) s

end Sys2Proof.Machine
end

