-- ==== Sys2Proof/Machine/Lpf.lean ====
section
/-! DEFINITION. Chroma Smoother, `LPF` (spec/41_chroma_lowpass.md). -/

namespace Sys2Proof.Machine

open Sys2Proof

/-- `tap(p, q, r)` (spec/41_chroma_lowpass.md R96). -/
def lpfTap (n : Arith) (p q r : Sample) : Sample :=
  fadd n (fadd n (fmul n (k0_25 n.format) p) (fmul n (k0_5 n.format) q)) (fmul n (k0_25 n.format) r)

/-- `1 <= x <= w-2` and `1 <= y <= h-2`: no interior when `w < 3` or `h < 3` (spec/41_chroma_lowpass.md R96, R98). -/
def lpfInterior (w h x y : Nat) : Bool := decide (1 ≤ x ∧ x + 2 ≤ w ∧ 1 ≤ y ∧ y + 2 ≤ h)

/-- The horizontal pass (spec/41_chroma_lowpass.md R96). -/
def lpfHorizontal (n : Arith) (p : Plane) (x y : Nat) : Sample :=
  if lpfInterior p.w p.h x y then lpfTap n (p.sample (x - 1) y) (p.sample x y) (p.sample (x + 1) y)
  else p.sample x y

/-- The vertical pass in column `x` (spec/41_chroma_lowpass.md R97). With `LPF_VPASS = in_place` the sample above is the
one this pass already produced. -/
def lpfVertical (vpass : LpfVpass) (n : Arith) (p : Plane) (x : Nat) : Nat → Sample
  | 0 => lpfHorizontal n p x 0
  | y + 1 =>
    if lpfInterior p.w p.h x (y + 1) then
      let above := match vpass with
        | .buffered => lpfHorizontal n p x y
        | .inPlace => lpfVertical vpass n p x y
      lpfTap n above (lpfHorizontal n p x (y + 1)) (lpfHorizontal n p x (y + 2))
    else lpfHorizontal n p x (y + 1)

/-- The checks of spec/41_chroma_lowpass.md R95. -/
def lpfChecks (a : Nat) (s : State) : List (Bool × FaultCode) :=
  [(allValid [s.plane a], .unwritten), (allTagged [.fullsize] [s.plane a], .tag)]

/-- The smoothed plane. -/
def lpfPlane (s : State) (a : Nat) : Plane :=
  Plane.build (s.plane a).w (s.plane a).h .fullsize (lpfVertical s.params.lpfVpass s.arith (s.plane a))

/-- The effect of spec/41_chroma_lowpass.md R95. -/
def lpfEffect (d a : Nat) (s : State) : State := (s.setPlane d (lpfPlane s a)).nextDraw

/-- `LPF pD, pA`. -/
def execLpf (d a : PlaneReg) (s : State) : Host.Outcome State Fault Refusal :=
  runCommand (.lpf d a) (lpfChecks a s) (lpfEffect d a) s

end Sys2Proof.Machine
end

