-- ==== Sys2Proof/Machine/Mest.lean ====
section
/-! DEFINITION. Motion Estimator, `MEST` (spec/42_motion_estimator.md). -/

namespace Sys2Proof.Machine

open Sys2Proof

/-- The pairs `(i, j)` with `i, j < n`, `j` outer, `i` inner. -/
def rasterPairs (n : Nat) : List (Nat × Nat) :=
  (List.range n).flatMap fun j => (List.range n).map fun i => (i, j)

/-- `sad_c` of the candidate at `(sx, sy)` for the block at `(mx, my)`, accumulated row-major
(spec/42_motion_estimator.md R102). -/
def sadOf (n : Arith) (target reference : Plane) (mx my sx sy : Nat) : Sample :=
  (rasterPairs 16).foldl
    (fun sad ij => fadd n sad
      (fabs n.format (fsub n (target.sample (mx + ij.1) (my + ij.2)) (reference.sample (sx + ij.1) (sy + ij.2)))))
    kPosZero

/-- The cost of a candidate (spec/42_motion_estimator.md R102): `ref` and `tgt` are the bases of the two frames. -/
def costOf (s : State) (ref tgt mx my sx sy : Nat) : Sample :=
  let n := s.arith
  let sad := fun c => sadOf n (s.plane (tgt + c)) (s.plane (ref + c)) mx my sx sy
  fadd n (fadd n (fmul n (k0_5 n.format) (sad 0)) (fmul n (k0_25 n.format) (sad 1))) (fmul n (k0_25 n.format) (sad 2))

/-- Whether a later candidate replaces the incumbent (spec/42_motion_estimator.md R103): only on a strictly smaller cost.
With `MEST_TIE = last` also on an equal one (spec/90_conflicts.md C2, log entry 15). -/
def replaces (f : SampleFormat) (tie : MestTie) (cost best : Sample) : Bool :=
  match tie with
  | .first => flt f cost best
  | .last => flt f cost best || feq f cost best

/-- The scan of spec/42_motion_estimator.md R103 over candidates in order, `best` being the incumbent. -/
def scanBest (f : SampleFormat) (tie : MestTie) (cost : Nat × Nat → Sample) (best : Nat × Nat) : List (Nat × Nat) → Nat × Nat
  | [] => best
  | c :: rest => scanBest f tie cost (if replaces f tie (cost c) (cost best) then c else best) rest

/-- `search(mx, my)` (spec/42_motion_estimator.md R101, R103): the candidate number `(i, j)` is the block at
`(mx - 16 + i, my - 16 + j)`, `i, j` in 0..31, `j` outer; the vector is its offset (R104). -/
def searchBlock (s : State) (ref tgt mx my : Nat) : MotionVec :=
  let cost := fun ij : Nat × Nat => costOf s ref tgt mx my (mx - 16 + ij.1) (my - 16 + ij.2)
  let best := scanBest s.params.format s.params.mestTie cost (0, 0) (rasterPairs 32).tail
  { dx := (best.1 : Int) - 16, dy := (best.2 : Int) - 16 }

/-- The checks of spec/42_motion_estimator.md R100. -/
def mestChecks (a b : Nat) (s : State) : List (Bool × FaultCode) :=
  let ps := s.triple a ++ s.triple b
  [(allValid ps, .unwritten), (allTagged [.fullsize] ps, .tag),
   (allSized (s.plane a).w (s.plane a).h ps, .shape)]

/-- The buffer that `MEST` writes (spec/42_motion_estimator.md R100). -/
def mestBuffer (a b : Nat) (s : State) : MvBuffer where
  valid := true
  w := (s.plane a).w
  h := (s.plane a).h
  count := nmb (s.plane a).w (s.plane a).h
  vec := (searchedGrid (s.plane a).w (s.plane a).h).map fun m => searchBlock s a b m.1 m.2

/-- The effect of spec/42_motion_estimator.md R100. -/
def mestEffect (a b : Nat) (s : State) : State := (s.setMvb (mestBuffer a b s)).nextDraw

/-- `MEST pA, pB`: reference, target. -/
def execMest (a b : PlaneReg) (s : State) : Host.Outcome State Fault Refusal :=
  runCommand (.mest a b) (mestChecks a b s) (mestEffect a b) s

end Sys2Proof.Machine
end

