-- ==== Sys2Proof/Machine/Quant.lean ====
section
/-! DEFINITION. Quantizer, `QUANT` (spec/45_quantizer.md). -/

namespace Sys2Proof.Machine

open Sys2Proof

/-- `QMAT[r][c]` (spec/45_quantizer.md R126). -/
def qmatAt (p : Params) (r c : Nat) : Sample := p.qmat.getD (8 * r + c) kPosZero

/-- The effective step at row `r`, column `c` of a block (spec/45_quantizer.md R127). -/
def quantStep (n : Arith) (p : Params) (q : Sample) (r c : Nat) : Sample :=
  fceil n (fdiv n (qmatAt p r c) q)

/-- One output sample (spec/45_quantizer.md R125, R128). -/
def quantSample (n : Arith) (p : Params) (q : Sample) (src : Plane) (x y : Nat) : Sample :=
  fround n p.roundTies (fdiv n (src.sample x y) (quantStep n p q (y % 8) (x % 8)))

/-- The checks of spec/45_quantizer.md R125. -/
def quantChecks (a : Nat) (s : State) : List (Bool × FaultCode) :=
  (legalQuality s, .config) :: blockedChecks (s.plane a)

/-- The quantised plane. -/
def quantPlane (s : State) (a : Nat) : Plane :=
  Plane.build (s.plane a).w (s.plane a).h (s.plane a).tag (quantSample s.arith s.params s.q (s.plane a))

/-- The effect of spec/45_quantizer.md R125. -/
def quantEffect (d a : Nat) (s : State) : State := (s.setPlane d (quantPlane s a)).nextDraw

/-- `QUANT pD, pA`. -/
def execQuant (d a : PlaneReg) (s : State) : Host.Outcome State Fault Refusal :=
  runCommand (.quant d a) (quantChecks a s) (quantEffect d a) s

end Sys2Proof.Machine
end

