-- ==== Sys2Proof/Machine/Flags.lean ====
section
/-! DEFINITION. The status words computed from state: `STATUS`, `PINFO`, `MVINFO`, `TKINFO` (spec/10_state.md R25, R36,
R38, R40), and the words a vector and a token cross the window in (spec/30_encoding.md R76, R77). -/

namespace Sys2Proof.Machine

open Sys2Proof

/-- The value of `STATUS.ERR` (spec/60_exceptions.md R157). -/
def FaultCode.code : FaultCode → Nat
  | .none => 0
  | .illegal => 1
  | .unwritten => 2
  | .tag => 3
  | .shape => 4
  | .config => 5
  | .resource => 6
  | .load => 7
  | .backend => 8

/-- The value of `PINFO[1:0]` (spec/10_state.md R36). -/
def PlaneState.code : PlaneState → Nat
  | .empty => 0
  | .loading => 1
  | .valid => 2

/-- The value of `STATUS.FTYPE`. -/
def FrameType.code : FrameType → Nat
  | .iFrame => 0
  | .pFrame => 1

/-- `STATUS` (spec/10_state.md R25): `FAULT` bit 0, `HAVE_PREV` bit 1, `FTYPE` bit 2, `MVVALID` bit 3, `ERR` bits 11:8,
the rest 0. -/
def State.statusWord (s : State) : Word :=
  BitVec.ofNat 32
    (s.fault.toNat + 2 * s.havePrev.toNat + 4 * s.ftype.code + 8 * s.mvb.valid.toNat + 256 * s.err.code)

/-- `PINFO` (spec/10_state.md R36): `state` bits 1:0, `tag` bits 3:2; 0 for an `EMPTY` plane. -/
def Plane.infoWord (p : Plane) : Word :=
  if p.state = .empty then 0 else BitVec.ofNat 32 (p.state.code + 4 * p.tag.code)

/-- A dimension or fill count of a plane as the window shows it: 0 for an `EMPTY` plane (spec/10_state.md R36). -/
def Plane.shown (p : Plane) (n : Nat) : Word := if p.state = .empty then 0 else BitVec.ofNat 32 n

/-- Bit 31 `valid`, bits 30:0 the count, 0 when not valid (spec/10_state.md R38, R40). -/
def infoWord (valid : Bool) (n : Nat) : Word :=
  if valid then BitVec.ofNat 32 (2 ^ 31 + n % 2 ^ 31) else 0

/-- `MVINFO`. -/
def MvBuffer.infoWord (b : MvBuffer) : Word := Machine.infoWord b.valid b.count

/-- `TKINFO`. -/
def TokenBuf.infoWord (b : TokenBuf) : Word := Machine.infoWord b.valid b.len

/-- A motion vector's word: `dy` in bits 31:16, `dx` in bits 15:0, two's complement (spec/30_encoding.md R77). -/
def MotionVec.toWord (v : MotionVec) : Word := BitVec.ofInt 16 v.dy ++ BitVec.ofInt 16 v.dx

/-- `LIT(v)` (spec/30_encoding.md R76). -/
def litToken (f : SampleFormat) (v : Sample) : List Word := [0x00000000, fbits f v]

/-- `RUN(n)`: run length in bits 5:0 of the header (spec/30_encoding.md R76). -/
def runToken (n : Nat) : List Word := [BitVec.ofNat 32 (0x40000000 + n % 64), 0x00000000]

/-- `EOB` (spec/30_encoding.md R76). -/
def eobToken : List Word := [0x80000000, 0x00000000]

/-- The byte lane `k` of a word on a byte-addressed bus, little-endian (spec/20_memory.md R52). -/
def byteLane (v : Word) (k : Nat) : Byte := BitVec.ofNat 8 (v.toNat / 2 ^ (8 * k))

end Sys2Proof.Machine
end

