-- ==== Sys2Proof/Machine/Tokens.lean ====
section
/-! DEFINITION. Token Encoder, `TOKENS` (spec/48_token_encoder.md). -/

namespace Sys2Proof.Machine

open Sys2Proof

/-- What a zero run that reaches the end of the block emits (spec/48_token_encoder.md R139, R140): a run token only when
it is longer than 1, the literal `+0` when it is exactly 1. -/
def trailingRun (f : SampleFormat) (run : Nat) : List Word :=
  if 1 < run then runToken run else if run = 1 then litToken f kPosZero else []

/-- The loop of `encode_block` over the AC positions, `run` zeros being pending (spec/48_token_encoder.md R139). -/
def encodeAc (f : SampleFormat) (run : Nat) : List Sample → List Word
  | [] => trailingRun f run
  | v :: rest =>
    if feq f v kPosZero then encodeAc f (run + 1) rest
    else (if 1 ≤ run then runToken run else []) ++ litToken f v ++ encodeAc f 0 rest

/-- `encode_block(seq)` of row `n` (spec/48_token_encoder.md R139): position 0 is not read. -/
def encodeBlock (f : SampleFormat) (src : Plane) (n : Nat) : List Word :=
  encodeAc f 0 ((List.range 63).map fun k => src.sample (k + 1) n)

/-- The words of all blocks, each followed by `EOB` (spec/48_token_encoder.md R138). -/
def tokenWords (f : SampleFormat) (src : Plane) : List Word :=
  (List.range src.h).flatMap fun n => encodeBlock f src n ++ eobToken

/-- The checks of spec/48_token_encoder.md R138. -/
def tokensChecks (a : Nat) (s : State) : List (Bool × FaultCode) :=
  [(allValid [s.plane a], .unwritten), (allTagged [.zigzag] [s.plane a], .tag),
   ((s.plane a).w == 64, .shape)]

/-- The token register that `TOKENS` writes. -/
def tokensBuffer (s : State) (a : Nat) : TokenBuf where
  valid := true
  len := (tokenWords s.params.format (s.plane a)).length
  word := tokenWords s.params.format (s.plane a)

/-- The effect of spec/48_token_encoder.md R138. -/
def tokensEffect (t a : Nat) (s : State) : State := s.setToken t (tokensBuffer s a)

/-- `TOKENS tkT, pA`. -/
def execTokens (t : TokenReg) (a : PlaneReg) (s : State) : Host.Outcome State Fault Refusal :=
  runCommand (.tokens t a) (tokensChecks a s) (tokensEffect t a) s

end Sys2Proof.Machine
end

