-- ==== Sys2Proof/Machine/Zigzag.lean ====
section
/-! DEFINITION. Zig-Zag Scanner, `ZIGZAG` (spec/47_zigzag.md). -/

namespace Sys2Proof.Machine

open Sys2Proof

/-- `ZZ[k]` (spec/47_zigzag.md R135). -/
def zzAt (p : Params) (k : Nat) : Nat := p.zz.getD k 0

/-- The sample `k` of block number `n`'s sequence (spec/47_zigzag.md R134). -/
def zigzagSample (p : Params) (src : Plane) (k n : Nat) : Sample :=
  let bx := n % (src.w / 8)
  let by' := n / (src.w / 8)
  src.sample (8 * bx + zzAt p k % 8) (8 * by' + zzAt p k / 8)

/-- The 64-wide plane of sequences, one row a block, blocks in raster order. -/
def zigzagPlane (s : State) (a : Nat) : Plane :=
  Plane.build 64 ((s.plane a).w / 8 * ((s.plane a).h / 8)) .zigzag (zigzagSample s.params (s.plane a))

/-- The effect of spec/47_zigzag.md R134. -/
def zigzagEffect (d a : Nat) (s : State) : State := s.setPlane d (zigzagPlane s a)

/-- `ZIGZAG pD, pA`. -/
def execZigzag (d a : PlaneReg) (s : State) : Host.Outcome State Fault Refusal :=
  runCommand (.zigzag d a) (blockedChecks (s.plane a)) (zigzagEffect d a) s

end Sys2Proof.Machine
end

