-- ==== Sys2Proof/Machine/Frame.lean ====
section
/-! DEFINITION. Housekeeping commands and frame sequencing: `NOP`, `COPY`, `PDEF`, `FRAME`, `ENDSEQ`
(spec/49_frame_control.md). -/

namespace Sys2Proof.Machine

open Sys2Proof

/-! ## NOP, COPY, PDEF, ENDSEQ -/

/-- `NOP` (spec/49_frame_control.md R144). -/
def execNop (s : State) : Host.Outcome State Fault Refusal := runCommand .nop [] id s

/-- The check of spec/49_frame_control.md R145. -/
def copyChecks (a : Nat) (s : State) : List (Bool × FaultCode) := [(allValid [s.plane a], .unwritten)]

/-- The effect of spec/49_frame_control.md R145. -/
def copyEffect (d a : Nat) (s : State) : State :=
  s.setPlane d { s.plane a with state := .valid, fill := (s.plane a).w * (s.plane a).h }

/-- `COPY pD, pA`. -/
def execCopy (d a : PlaneReg) (s : State) : Host.Outcome State Fault Refusal :=
  runCommand (.copy d a) (copyChecks a s) (copyEffect d a) s

/-- The checks of spec/49_frame_control.md R146, the product in unbounded integers. -/
def pdefChecks (s : State) : List (Bool × FaultCode) :=
  [(s.width != 0 && s.height != 0, .config),
   (decide (s.width.toNat * s.height.toNat ≤ s.params.planeCap), .resource)]

/-- The effect of spec/49_frame_control.md R146: whatever `P[d]` held is discarded. -/
def pdefEffect (d : Nat) (tag : Tag) (s : State) : State :=
  s.setPlane d
    { state := .loading, w := s.width.toNat, h := s.height.toNat, tag := tag, fill := 0, data := [] }

/-- `PDEF pD, TAG`. -/
def execPdef (d : PlaneReg) (tag : Tag) (s : State) : Host.Outcome State Fault Refusal :=
  runCommand (.pdef d tag) (pdefChecks s) (pdefEffect d tag) s

/-- The effect of spec/49_frame_control.md R152, less the command count. -/
def endseqEffect (s : State) : State :=
  { (s.emptyPlanes 6 3).invalidateMvb with havePrev := false, frameIdx := 0 }

/-- `ENDSEQ`. -/
def execEndseq (s : State) : Host.Outcome State Fault Refusal := runCommand .endseq [] endseqEffect s

/-! ## FRAME -/

/-- `ptype`: the frame is a P-frame when `FRAMEIDX mod IFREQ != 0` (spec/49_frame_control.md R147, R150). -/
def State.isPFrame (s : State) : Bool := s.frameIdx.toNat % s.ifreq.toNat != 0

/-- The source planes of `FRAME`: `P[0..2]`, and for a P-frame `P[6..8]` (spec/49_frame_control.md R147). -/
def frameSources (s : State) : List Plane := s.triple 0 ++ (if s.isPFrame then s.triple 6 else [])

/-- Check 1 of spec/49_frame_control.md R147. -/
def frameConfigOk (s : State) : Bool :=
  s.width != 0 && s.height != 0 && s.width.toNat % 16 == 0 && s.height.toNat % 16 == 0 &&
    legalQuality s && s.ifreq != 0

/-- The checks of spec/49_frame_control.md R147. -/
def frameChecks (s : State) : List (Bool × FaultCode) :=
  [(frameConfigOk s, .config),
   (allValid (frameSources s) && (!s.isPFrame || s.havePrev), .unwritten),
   (allTagged [.fullsize] (frameSources s), .tag),
   (allSized s.width.toNat s.height.toNat (frameSources s), .shape)]

/-- Step 0 of spec/49_frame_control.md R149. -/
def frameInvalidate (s : State) : State :=
  ((((s.emptyPlanes 9 17).invalidateToken 0).invalidateToken 1).invalidateToken 2).invalidateMvb

/-- Steps 1 to 3: the colour conversion, then the smoothing of the chroma planes. -/
def frameSmooth (s : State) : State := lpfEffect 5 2 (lpfEffect 4 1 (copyEffect 3 0 (cscEffect 0 0 s)))

/-- Steps 4 and 5: motion search and delta of a P-frame, a copy of an I-frame. -/
def framePredict (ptype : Bool) (s : State) : State :=
  if ptype then deltaEffect 9 6 3 (mestEffect 6 3 s)
  else copyEffect 11 5 (copyEffect 10 4 (copyEffect 9 3 s))

/-- Step 6. -/
def frameSubsample (s : State) : State := subsEffect 13 11 (subsEffect 12 10 s)

/-- Step 7. -/
def frameTransform (s : State) : State := dctEffect 16 13 (dctEffect 15 12 (dctEffect 14 9 s))

/-- Step 8. -/
def frameQuantise (s : State) : State := quantEffect 19 16 (quantEffect 18 15 (quantEffect 17 14 s))

/-- Step 9. -/
def framePredictDc (s : State) : State := dcpredEffect 22 19 (dcpredEffect 21 18 (dcpredEffect 20 17 s))

/-- Step 10. -/
def frameScan (s : State) : State := zigzagEffect 25 19 (zigzagEffect 24 18 (zigzagEffect 23 17 s))

/-- Step 11. -/
def frameTokens (s : State) : State := tokensEffect 2 25 (tokensEffect 1 24 (tokensEffect 0 23 s))

/-- Step 12: the smoothed frame becomes the previous one. -/
def frameCarry (s : State) : State :=
  { copyEffect 8 5 (copyEffect 7 4 (copyEffect 6 3 s)) with havePrev := true }

/-- Step 13, less the command count. -/
def frameFinish (ptype : Bool) (s : State) : State :=
  { s with ftype := if ptype then .pFrame else .iFrame, frameIdx := s.frameIdx + 1 }

/-- The expansion of spec/49_frame_control.md R149. No stage's checks can fail once those of `FRAME` hold (R154), so the
stages' effects alone are run (log entry 19). -/
def frameEffect (s : State) : State :=
  frameFinish s.isPFrame <| frameCarry <| frameTokens <| frameScan <| framePredictDc <| frameQuantise <|
    frameTransform <| frameSubsample <| framePredict s.isPFrame <| frameSmooth <| frameInvalidate s

/-- `FRAME`. -/
def execFrame (s : State) : Host.Outcome State Fault Refusal := runCommand .frame (frameChecks s) frameEffect s

end Sys2Proof.Machine
end

