-- ==== Sys2Proof/Machine/Dispatch.lean ====
section
/-! DEFINITION. What each command does: one arm a constructor of `Instr`. -/

namespace Sys2Proof.Machine

open Sys2Proof

/-- The command `i` executed in state `s`. -/
def exec (i : Instr) (s : State) : Host.Outcome State Fault Refusal :=
  match i with
  | .nop => Sys2Proof.Machine.execNop s
  | .csc d a => Sys2Proof.Machine.execCsc d a s
  | .lpf d a => Sys2Proof.Machine.execLpf d a s
  | .mest a b => Sys2Proof.Machine.execMest a b s
  | .delta d a b => Sys2Proof.Machine.execDelta d a b s
  | .subs d a => Sys2Proof.Machine.execSubs d a s
  | .dct d a => Sys2Proof.Machine.execDct d a s
  | .quant d a => Sys2Proof.Machine.execQuant d a s
  | .dcpred d a => Sys2Proof.Machine.execDcpred d a s
  | .zigzag d a => Sys2Proof.Machine.execZigzag d a s
  | .tokens t a => Sys2Proof.Machine.execTokens t a s
  | .copy d a => Sys2Proof.Machine.execCopy d a s
  | .pdef d tag => Sys2Proof.Machine.execPdef d tag s
  | .frame => Sys2Proof.Machine.execFrame s
  | .endseq => Sys2Proof.Machine.execEndseq s

end Sys2Proof.Machine
end

