-- ==== Sys2Proof/Machine/Window.lean ====
section
/-! DEFINITION. The host register window: the register map, reads and writes of it, command issue, the load and read-out
protocols, and the bus errors (spec/10_state.md R23, spec/20_memory.md). -/

namespace Sys2Proof.Machine

open Sys2Proof

/-- The register at a byte offset (spec/10_state.md R23); none at a reserved offset. -/
def regAt (offset : Nat) : Option Reg :=
  match offset with
  | 0x00 => some .id
  | 0x04 => some .status
  | 0x08 => some .ctrl
  | 0x0C => some .cmd
  | 0x10 => some .width
  | 0x14 => some .height
  | 0x18 => some .quality
  | 0x1C => some .ifreq
  | 0x20 => some .block
  | 0x24 => some .window
  | 0x28 => some .frameidx
  | 0x2C => some .cmdcount
  | 0x30 => some .fcmd
  | 0x34 => some .psel
  | 0x38 => some .pw
  | 0x3C => some .ph
  | 0x40 => some .pinfo
  | 0x44 => some .paddr
  | 0x48 => some .pdata
  | 0x4C => some .pfill
  | 0x50 => some .mvinfo
  | 0x54 => some .mvaddr
  | 0x58 => some .mvdata
  | 0x5C => some .tksel
  | 0x60 => some .tkinfo
  | 0x64 => some .tkaddr
  | 0x68 => some .tkdata
  | _ => none

/-! ## Reads -/

/-- The plane, and the token register, that the select registers name (spec/10_state.md R36, R40). -/
def State.selPlane (s : State) : Plane := s.plane s.psel

def State.selToken (s : State) : TokenBuf := s.token s.tksel

/-- An unspecified read word, and the state after the draw (spec/20_memory.md R59 to R61; log entry 3). -/
def drawRead (s : State) : Word × State := (Config.drawnWord s.draws, s.nextDraw)

/-- A `PDATA` read (spec/20_memory.md R59). -/
def readPdata (s : State) : Word × State :=
  let p := s.selPlane
  if p.state = .valid ∧ s.paddr.toNat < p.w * p.h then
    (fbits s.params.format (p.nth s.paddr.toNat), { s with paddr := s.paddr + 1 })
  else drawRead s

/-- An `MVDATA` read (spec/20_memory.md R60). -/
def readMvdata (s : State) : Word × State :=
  if s.mvb.valid ∧ s.mvaddr.toNat < s.mvb.count then
    ((s.mvb.nth s.mvaddr.toNat).toWord, { s with mvaddr := s.mvaddr + 1 })
  else drawRead s

/-- A `TKDATA` read (spec/20_memory.md R61). -/
def readTkdata (s : State) : Word × State :=
  let b := s.selToken
  if b.valid ∧ s.tkaddr.toNat < b.len then
    (b.word.getD s.tkaddr.toNat 0, { s with tkaddr := s.tkaddr + 1 })
  else drawRead s

/-- A read of a register: the word, and the state after it. Only the data ports change state (spec/20_memory.md R55). -/
def readReg (r : Reg) (s : State) : Word × State :=
  match r with
  | .id => (0x50504501, s)
  | .status => (s.statusWord, s)
  | .ctrl => (0, s)
  | .cmd => (0, s)
  | .width => (s.width, s)
  | .height => (s.height, s)
  | .quality => (s.quality, s)
  | .ifreq => (s.ifreq, s)
  | .block => (16, s)
  | .window => (16, s)
  | .frameidx => (s.frameIdx, s)
  | .cmdcount => (s.cmdCount, s)
  | .fcmd => (s.fcmd, s)
  | .psel => (BitVec.ofNat 32 s.psel, s)
  | .pw => (s.selPlane.shown s.selPlane.w, s)
  | .ph => (s.selPlane.shown s.selPlane.h, s)
  | .pinfo => (s.selPlane.infoWord, s)
  | .paddr => (s.paddr, s)
  | .pdata => readPdata s
  | .pfill => (s.selPlane.shown s.selPlane.fill, s)
  | .mvinfo => (s.mvb.infoWord, s)
  | .mvaddr => (s.mvaddr, s)
  | .mvdata => readMvdata s
  | .tksel => (BitVec.ofNat 32 s.tksel, s)
  | .tkinfo => (s.selToken.infoWord, s)
  | .tkaddr => (s.tkaddr, s)
  | .tkdata => readTkdata s

/-- A read at a byte offset: a reserved offset reads 0 (spec/20_memory.md R54). -/
def readWindow (offset : Nat) (s : State) : Word × State :=
  match regAt offset with
  | some r => readReg r s
  | none => (0, s)

/-! ## Writes -/

/-- Command issue (spec/20_memory.md R57): nothing while halted; else the word is decoded and executed, an illegal word
raising `ILLEGAL` (spec/30_encoding.md R73). -/
def writeCmd (c : Word) (s : State) : Host.Outcome State Fault Refusal :=
  if s.fault then .next s
  else match decode c with
    | .ok i => exec i s
    | .error _ => .next (s.raiseFault .illegal c)

/-- The plane after one more sample is loaded (spec/20_memory.md R58). -/
def Plane.append (p : Plane) (v : Sample) : Plane :=
  { p with
    data := p.data ++ [v]
    fill := p.fill + 1
    state := if p.fill + 1 = p.w * p.h then .valid else p.state }

/-- A `PDATA` write (spec/20_memory.md R58). -/
def writePdata (v : Word) (s : State) : State :=
  if s.fault then s
  else if s.selPlane.state ≠ .loading then s.raiseFault .load 0
  else s.setPlane s.psel (s.selPlane.append (ffrom s.params.format v))

/-- A `CTRL` write: bit 0 resets (spec/10_state.md R26). -/
def writeCtrl (v : Word) (s : State) : State := if v.toNat % 2 = 1 then s.engineReset else s

/-- A write of a register: read-only registers ignore it (spec/20_memory.md R54), the data and control ports act (R55). -/
def writeReg (r : Reg) (v : Word) (s : State) : Host.Outcome State Fault Refusal :=
  match r with
  | .id => .next s
  | .status => .next s
  | .ctrl => .next (writeCtrl v s)
  | .cmd => writeCmd v s
  | .width => .next { s with width := v }
  | .height => .next { s with height := v }
  | .quality => .next { s with quality := v }
  | .ifreq => .next { s with ifreq := v }
  | .block => .next s
  | .window => .next s
  | .frameidx => .next s
  | .cmdcount => .next s
  | .fcmd => .next s
  | .psel => .next { s with psel := Fin.ofNat 32 v.toNat }
  | .pw => .next s
  | .ph => .next s
  | .pinfo => .next s
  | .paddr => .next { s with paddr := v }
  | .pdata => .next (writePdata v s)
  | .pfill => .next s
  | .mvinfo => .next s
  | .mvaddr => .next { s with mvaddr := v }
  | .mvdata => .next s
  | .tksel => .next { s with tksel := Fin.ofNat 4 v.toNat }
  | .tkinfo => .next s
  | .tkaddr => .next { s with tkaddr := v }
  | .tkdata => .next s

/-- A write at a byte offset: a reserved offset ignores it (spec/20_memory.md R54). -/
def writeWindow (offset : Nat) (v : Word) (s : State) : Host.Outcome State Fault Refusal :=
  match regAt offset with
  | some r => writeReg r v s
  | none => .next s

/-! ## Accesses -/

/-- The only legal access: 32 bits, aligned, inside the window (spec/20_memory.md R53). -/
def legalAccess (offset size : Nat) : Bool := size == 4 && offset % 4 == 0 && decide (offset < 256)

/-- The bus's answer. -/
def State.answer (s : State) (r : BusReply) : State := { s with reply := r }

/-- One event from outside the engine, in a state whose queue holds the events after it. An access that is not legal is
answered with a bus error and changes nothing (spec/20_memory.md R53); a write is answered when its command has ended
(R57). -/
def hostEvent (e : HostEvent) (s : State) : Host.Outcome State Fault Refusal :=
  match e with
  | .read offset size =>
    if legalAccess offset size then
      .next ((readWindow offset s).2.answer (.data (readWindow offset s).1))
    else .next (s.answer .busError)
  | .write offset size v =>
    if legalAccess offset size then writeWindow offset v (s.answer .done) else .next (s.answer .busError)
  | .hardReset => .next (s.engineReset.answer .idle)

/-- The offset of `CMD` (spec/10_state.md R23). -/
def cmdOffset : Nat := 0x0C

/-- The host issuing the command word of the `nbits` low bits of `w` as its very next access. -/
def State.issueNext (s : State) (nbits w : Nat) : State :=
  { s with host := .write cmdOffset 4 (BitVec.ofNat 32 (w % 2 ^ nbits)) :: s.host }

/-- The host's next access is taken from the queue. -/
def State.popHost (s : State) (rest : List HostEvent) : State := { s with host := rest }

end Sys2Proof.Machine
end

