-- ==== Sys2Proof/Machine/Step.lean ====
section
/-! DEFINITION. One step: the host's next access, with the command it issues run to completion (spec/20_memory.md R56,
R57, R62). -/

namespace Sys2Proof.Machine

open Sys2Proof

/-- One step. The engine executes nothing on its own (spec/70_reset_and_hazards.md R178): with no access pending the
state stays as it is. -/
def step (s : State) : Host.Outcome State Fault Refusal :=
  match s.host with
  | [] => .next s
  | e :: rest => hostEvent e (s.popHost rest)

/-- `s` with the host's next access being a write of the command word to `CMD`. The engine fetches nothing
(spec/20_memory.md R64), so this access is what makes the very next step run the command (log entry 1). -/
def State.withFetchWord (s : State) (nbits w : Nat) : State := s.issueNext nbits w

end Sys2Proof.Machine
end

