-- ==== Sys2Proof/Safety.lean ====
section
/-! DEFINITION. What the engine keeps of every run: the invariants the spec states of the three stores and of the fault
registers (spec/10_state.md R33, R37, R39, R32, spec/60_exceptions.md R157). -/

namespace Sys2Proof.Machine

open Sys2Proof

/-- The invariant of a plane register (spec/10_state.md R33, R35, R43): `w*h <= PLANE_CAP`; an `EMPTY` plane has every
field at its reset value; a `LOADING` plane is not full; a `VALID` plane is full and has `w, h >= 1`. The samples held are
the `fill` loaded ones, and each is a pattern of the format `F` (spec/00_scope.md R8). -/
abbrev Plane.wf (prm : Params) (p : Plane) : Prop :=
  p.data.length = p.fill ∧ p.w * p.h ≤ prm.planeCap ∧
    (p.state = .empty → p.w = 0 ∧ p.h = 0 ∧ p.tag = .fullsize ∧ p.fill = 0) ∧
    (p.state = .loading → 1 ≤ p.w ∧ 1 ≤ p.h ∧ p.fill < p.w * p.h) ∧
    (p.state = .valid → 1 ≤ p.w ∧ 1 ≤ p.h ∧ p.fill = p.w * p.h) ∧
    (p.data.all fun v => decide (v.toNat < 2 ^ prm.format.width)) = true

/-- The invariant of `MVB` (spec/10_state.md R37): one vector for each searched macroblock, components in -16..15. -/
abbrev MvBuffer.wf (b : MvBuffer) : Prop :=
  b.count = nmb b.w b.h ∧ b.vec.length = b.count ∧
    ∀ v ∈ b.vec, -16 ≤ v.dx ∧ v.dx ≤ 15 ∧ -16 ≤ v.dy ∧ v.dy ≤ 15

/-- The invariant of a token register (spec/10_state.md R39): `len` words, within the capacity `2 * PLANE_CAP`. -/
abbrev TokenBuf.wf (cap : Nat) (b : TokenBuf) : Prop := b.word.length = b.len ∧ b.len ≤ 2 * cap

/-- The invariant of the fault registers (spec/10_state.md R25, R32, spec/60_exceptions.md R157, R168): no code and no
word without a fault; with one, a code that the engine raises. -/
abbrev State.faultWf (s : State) : Prop :=
  (s.fault = false → s.err = .none ∧ s.fcmd = 0) ∧ (s.fault = true → s.err ≠ .none ∧ s.err ≠ .backend)

/-- The invariant of the whole engine. -/
abbrev State.wf (s : State) : Prop :=
  s.params.wf ∧ (∀ i : Fin 32, (s.plane i).wf s.params) ∧ s.mvb.wf ∧
    (∀ t : Fin 4, (s.token t).wf s.params.planeCap) ∧ s.faultWf

/-- The engine is running: no fault has been taken (spec/60_exceptions.md R161). -/
abbrev State.running (s : State) : Prop := s.fault = false

end Sys2Proof.Machine
end

