-- ==== Sys2Proof/Certificates/Slice0/Obligations.lean ====
section
/-! DEFINITION. The statements for the provers. Words used by several of them stand first, under `Sys2Proof.Claims`.

Where a statement gives a sample as an expression in `s.arith` (the sample format and the state's draw number), a NaN
result has the free sign and payload of log entry 4, and a word of a binary64 sample that is no binary32 value is the free
one of log entry 6: the statement holds for all of them. -/

open Sys2Proof Sys2Proof.Machine

/-! ## Words of the statements -/

namespace Sys2Proof.Claims

/-- The command records `code` and its word, and changes nothing else (spec/60_exceptions.md R158). -/
def faultsWith (i : Instr) (s : State) (code : FaultCode) : Prop :=
  exec i s = .next { s with fault := true, err := code, fcmd := encode i }

/-- Every plane register whose number is not listed is unchanged. -/
abbrev otherPlanesSame (ds : List Nat) (s t : State) : Prop := ∀ k < 32, k ∉ ds → t.plane k = s.plane k

/-- Every token register but those listed is unchanged. -/
abbrev otherTokensSame (ts : List Nat) (s t : State) : Prop := ∀ k < 4, k ∉ ts → t.token k = s.token k

/-- The registers that no command writes, and the model's own fields but the draw counter, are unchanged. -/
def hostSideSame (s t : State) : Prop :=
  t.width = s.width ∧ t.height = s.height ∧ t.quality = s.quality ∧ t.ifreq = s.ifreq ∧ t.psel = s.psel ∧
    t.paddr = s.paddr ∧ t.mvaddr = s.mvaddr ∧ t.tksel = s.tksel ∧ t.tkaddr = s.tkaddr ∧ t.params = s.params ∧
    t.host = s.host ∧ t.reply = s.reply

/-- No fault is recorded and the sequence registers are unchanged. -/
def sequenceSame (s t : State) : Prop :=
  t.fault = s.fault ∧ t.err = s.err ∧ t.fcmd = s.fcmd ∧ t.havePrev = s.havePrev ∧ t.ftype = s.ftype ∧
    t.frameIdx = s.frameIdx

/-- The frame of a command that completes and whose destinations are the plane registers `ds`. -/
def planeFrame (ds : List Nat) (s t : State) : Prop :=
  hostSideSame s t ∧ sequenceSame s t ∧ otherPlanesSame ds s t ∧ otherTokensSame [] s t ∧ t.mvb = s.mvb ∧
    t.cmdCount = s.cmdCount + 1

/-- A complete plane of that size and tag (spec/10_state.md R33). -/
abbrev isPlane (p : Plane) (w h : Nat) (tag : Tag) : Prop :=
  p.state = .valid ∧ p.w = w ∧ p.h = h ∧ p.tag = tag ∧ p.fill = w * h ∧ p.data.length = w * h

/-- The planes numbered in `ks` are `VALID`. -/
abbrev allValidAt (s : State) (ks : List Nat) : Prop := ∀ k ∈ ks, (s.plane k).state = .valid

/-- The planes numbered in `ks` have one of the tags. -/
abbrev allTaggedAt (s : State) (tags : List Tag) (ks : List Nat) : Prop := ∀ k ∈ ks, (s.plane k).tag ∈ tags

/-- The planes numbered in `ks` are `w` by `h`. -/
abbrev allSizedAt (s : State) (w h : Nat) (ks : List Nat) : Prop := ∀ k ∈ ks, (s.plane k).w = w ∧ (s.plane k).h = h

/-- The registers of the frame operand with base `i` (spec/00_scope.md R17). -/
abbrev tripleAt (i : Nat) : List Nat := [i, i + 1, i + 2]

/-- Both dimensions of a plane are multiples of `n`. -/
abbrev blocked (n : Nat) (p : Plane) : Prop := p.w % n = 0 ∧ p.h % n = 0

/-- A legal `QUALITY`: a pattern of a finite value greater than zero (spec/10_state.md R29). -/
abbrev qualityLegal (q : Word) : Prop := 0 < q.toNat ∧ q.toNat < 0x7F800000

/-- What is left of the state when the host's next access is taken and answered. -/
def afterAccess (s : State) (rest : List HostEvent) (r : BusReply) : State := { s with host := rest, reply := r }

/-- The conditions of spec/30_encoding.md R73. -/
abbrev isIllegalWord (c : Word) : Prop :=
  let op := slice c 0 8
  let d := slice c 8 5
  let a := slice c 13 5
  let b := slice c 18 5
  0x0F ≤ op ∨ slice c 23 9 ≠ 0 ∨
    (op ∈ [0x00, 0x0D, 0x0E] ∧ (d ≠ 0 ∨ a ≠ 0 ∨ b ≠ 0)) ∨
    (op ∈ [0x01, 0x02, 0x05, 0x06, 0x07, 0x08, 0x09, 0x0A, 0x0B, 0x0C] ∧ b ≠ 0) ∨
    (op = 0x03 ∧ d ≠ 0) ∨
    (op = 0x01 ∧ (30 ≤ d ∨ 30 ≤ a)) ∨ (op = 0x03 ∧ (30 ≤ a ∨ 30 ≤ b)) ∨
    (op = 0x04 ∧ (30 ≤ d ∨ 30 ≤ a ∨ 30 ≤ b)) ∨
    (op = 0x0A ∧ 4 ≤ d) ∨ (op = 0x0C ∧ 4 ≤ a)

/-- A literal of a rule in the sample format: its binary32 pattern and its binary64 pattern, each the value nearest to the
literal (spec/00_scope.md R10). -/
def lit (f : SampleFormat) (b32 : BitVec 32) (b64 : BitVec 64) : Sample :=
  match f with
  | .binary32 => BitVec.ofNat 64 b32.toNat
  | .binary64 => b64

/-- `K("0.25")`, `K("0.5")`, `K("128")`. -/
def quarter (f : SampleFormat) : Sample := lit f 0x3E800000 0x3FD0000000000000

def half (f : SampleFormat) : Sample := lit f 0x3F000000 0x3FE0000000000000

def c128 (f : SampleFormat) : Sample := lit f 0x43000000 0x4060000000000000

/-- `K("0.25")*p + K("0.5")*q + K("0.25")*r` in the order of spec/41_chroma_lowpass.md R96. -/
def tap (n : Arith) (p q r : Sample) : Sample :=
  fadd n (fadd n (fmul n (quarter n.format) p) (fmul n (half n.format) q)) (fmul n (quarter n.format) r)

/-- `H(x,y)` (spec/41_chroma_lowpass.md R96). -/
def horizontal (n : Arith) (p : Plane) (x y : Nat) : Sample :=
  if 1 ≤ x ∧ x + 2 ≤ p.w ∧ 1 ≤ y ∧ y + 2 ≤ p.h then
    tap n (p.sample (x - 1) y) (p.sample x y) (p.sample (x + 1) y)
  else p.sample x y

/-- `sad_c` (spec/42_motion_estimator.md R102), rows outer, columns inner. -/
def sad (n : Arith) (tgt ref : Plane) (mx my sx sy : Nat) : Sample :=
  (List.range 16).foldl (fun acc j => (List.range 16).foldl (fun acc i =>
    fadd n acc (fabs n.format (fsub n (tgt.sample (mx + i) (my + j)) (ref.sample (sx + i) (sy + j))))) acc) 0

/-- The cost (spec/42_motion_estimator.md R102) of the candidate with offset `(i - 16, j - 16)` for the searched block
`(gx, gy)`, `a` being the reference triple and `b` the target triple. -/
def cost (s : State) (a b gx gy i j : Nat) : Sample :=
  let n := s.arith
  let c := fun k => sad n (s.plane (b + k)) (s.plane (a + k)) (16 + 16 * gx) (16 + 16 * gy) (16 * gx + i) (16 * gy + j)
  fadd n (fadd n (fmul n (half n.format) (c 0)) (fmul n (quarter n.format) (c 1))) (fmul n (quarter n.format) (c 2))

/-- The sources of `MEST` and `DELTA`: both triples. -/
abbrev bothTriples (a b : Nat) : List Nat := tripleAt a ++ tripleAt b

/-- The 64-term sum of spec/44_dct.md R121 over a level-shifted block, times the scale. -/
def coefficient (n : Arith) (p : Params) (blk : Nat → Nat → Sample) (u v : Nat) : Sample :=
  let acc := (List.range 8).foldl (fun acc y => (List.range 8).foldl (fun acc x =>
    fadd n acc (fmul n (fmul n (blk x y) (p.cos.getD (8 * x + u) 0)) (p.cos.getD (8 * y + v) 0))) acc) 0
  fmul n (fmul n (fmul n (quarter n.format) (p.cn.getD u 0)) (p.cn.getD v 0)) acc

/-- The loop of spec/48_token_encoder.md R139, as `out` and `run` after positions 1..63. -/
def blockLoop (f : SampleFormat) (seq : Nat → Sample) : List Word × Nat :=
  (List.range 63).foldl (fun st k =>
    let v := seq (k + 1)
    if feq f v 0 then (st.1, st.2 + 1)
    else ((if 1 ≤ st.2 then st.1 ++ [BitVec.ofNat 32 (0x40000000 + st.2), 0] else st.1) ++ [0, fbits f v], 0)) ([], 0)

/-- `encode_block(seq)` (spec/48_token_encoder.md R139). -/
def blockTokens (f : SampleFormat) (seq : Nat → Sample) : List Word :=
  let st := blockLoop f seq
  st.1 ++ (if 1 < st.2 then [BitVec.ofNat 32 (0x40000000 + st.2), 0] else if st.2 = 1 then [0, 0] else [])

/-- Run commands one after another; `none` when one stops or takes a fault. -/
def runAll : List Instr → State → Option State
  | [], s => some s
  | i :: rest, s =>
    match exec i s with
    | .next t => if t.fault then none else runAll rest t
    | _ => none

/-- The commands of the expansion of `FRAME`, steps 1 to 12 (spec/49_frame_control.md R149). -/
def expansion (ptype : Bool) : List Instr :=
  [.csc 0 0, .copy 3 0, .lpf 4 1, .lpf 5 2] ++
    (if ptype then [.mest 6 3, .delta 9 6 3] else [.copy 9 3, .copy 10 4, .copy 11 5]) ++
    [.subs 12 10, .subs 13 11, .dct 14 9, .dct 15 12, .dct 16 13, .quant 17 14, .quant 18 15, .quant 19 16,
     .dcpred 20 17, .dcpred 21 18, .dcpred 22 19, .zigzag 23 17, .zigzag 24 18, .zigzag 25 19,
     .tokens 0 23, .tokens 1 24, .tokens 2 25, .copy 6 3, .copy 7 4, .copy 8 5]

/-- Check 1 of `FRAME` (spec/49_frame_control.md R147). -/
abbrev frameConfigured (s : State) : Prop :=
  s.width ≠ 0 ∧ s.height ≠ 0 ∧ s.width.toNat % 16 = 0 ∧ s.height.toNat % 16 = 0 ∧ qualityLegal s.quality ∧ s.ifreq ≠ 0

/-- The frame is a P-frame (spec/49_frame_control.md R150). -/
abbrev pType (s : State) : Prop := s.frameIdx.toNat % s.ifreq.toNat ≠ 0

/-- The planes `FRAME` reads: `P[0..2]`, and `P[6..8]` for a P-frame. -/
abbrev frameReads (s : State) : List Nat :=
  tripleAt 0 ++ (if s.frameIdx.toNat % s.ifreq.toNat ≠ 0 then tripleAt 6 else [])

/-- Check 2 of `FRAME`. -/
abbrev frameLoaded (s : State) : Prop := allValidAt s (frameReads s) ∧ (pType s → s.havePrev = true)

/-- Check 3 of `FRAME`. -/
abbrev frameTagged (s : State) : Prop := allTaggedAt s [.fullsize] (frameReads s)

/-- Check 4 of `FRAME`. -/
abbrev frameSized (s : State) : Prop := allSizedAt s s.width.toNat s.height.toNat (frameReads s)

/-- All the conditions under which `FRAME` completes. -/
abbrev frameReady (s : State) : Prop := frameConfigured s ∧ frameLoaded s ∧ frameTagged s ∧ frameSized s

/-- Half a spacing above the largest finite value of the format, in smallest subnormals. -/
def overflowBound : SampleFormat → Nat
  | .binary32 => (2 ^ 25 - 1) * 2 ^ 252
  | .binary64 => (2 ^ 54 - 1) * 2 ^ 2044

/-- `r` is the value of the format nearest to `num/den` smallest subnormals, ties to the even fraction; from half a spacing
above the largest finite value on it is the infinity of the sign of `num` (round to nearest, ties to even:
spec/00_scope.md R9; the overflow is IEEE 754's: log entry 21). -/
def correctlyRounded (f : SampleFormat) (r : Sample) (num : Int) (den : Nat) : Prop :=
  if num.natAbs < overflowBound f * den then
    isFinite f r = true ∧ ∀ c : Sample, isFinite f c = true →
      (den * sunits f r - num).natAbs ≤ (den * sunits f c - num).natAbs ∧
      ((den * sunits f r - num).natAbs = (den * sunits f c - num).natAbs → sunits f r ≠ sunits f c → r.toNat % 2 = 0)
  else isInf f r = true ∧ fsign f r = decide (num < 0)

end Sys2Proof.Claims

open Sys2Proof.Claims

/-! ## Reset and the hardwired registers -/

/-- spec/10_state.md R43, read through the window and field by field. -/
def Obligations.ResetLeavesTheTableOfR43 : Prop :=
  (readReg .id State.reset).1 = 0x50504501 ∧ (readReg .status State.reset).1 = 0 ∧
  State.reset.fault = false ∧ State.reset.havePrev = false ∧ State.reset.ftype = .iFrame ∧
  State.reset.mvb.valid = false ∧ State.reset.err = .none ∧
  State.reset.width = 0 ∧ State.reset.height = 0 ∧ State.reset.quality = 0 ∧ State.reset.ifreq = 0 ∧
  (readReg .block State.reset).1 = 16 ∧ (readReg .window State.reset).1 = 16 ∧
  State.reset.frameIdx = 0 ∧ State.reset.cmdCount = 0 ∧ State.reset.fcmd = 0 ∧
  State.reset.psel = 0 ∧ State.reset.paddr = 0 ∧ State.reset.mvaddr = 0 ∧ State.reset.tksel = 0 ∧
  State.reset.tkaddr = 0 ∧
  (∀ i : Fin 32, (State.reset.plane i).state = .empty ∧ (State.reset.plane i).w = 0 ∧ (State.reset.plane i).h = 0 ∧
    (State.reset.plane i).tag = .fullsize ∧ (State.reset.plane i).fill = 0) ∧
  State.reset.mvb.w = 0 ∧ State.reset.mvb.h = 0 ∧ State.reset.mvb.count = 0 ∧
  (∀ t : Fin 4, (State.reset.token t).valid = false ∧ (State.reset.token t).len = 0)

/-- spec/70_reset_and_hazards.md R176, spec/10_state.md R26: a `CTRL` write with bit 0 set, and the reset signal, leave the
same engine state, that of R43, from every state; with bit 0 clear a `CTRL` write does nothing. Which fields are not the
engine's and stay, and what is replied, is the model's choice (log entries 1, 2, 5, 18). -/
def Obligations.BothResetsLeaveTheResetState : Prop :=
  ∀ (s : State) (rest : List HostEvent) (v : Word),
    (s.host = .hardReset :: rest →
      step s = .next { State.reset with params := s.params, host := rest, reply := .idle, draws := s.draws }) ∧
    (s.host = .write 0x08 4 v :: rest → v.getLsbD 0 = true →
      step s = .next { State.reset with params := s.params, host := rest, reply := .done, draws := s.draws }) ∧
    (s.host = .write 0x08 4 v :: rest → v.getLsbD 0 = false → step s = .next (afterAccess s rest .done))

/-! ## Encoding -/

/-- Every well-formed command survives encoding and decoding (spec/30_encoding.md R70 to R72): no operand bit is lost. -/
def Obligations.DecodeOfEncodeIsTheCommand : Prop :=
  ∀ i : Instr, i.wellFormed = true → decode (encode i) = .ok i

/-- A word has one meaning: whatever decodes is a well-formed command and is its encoding (spec/30_encoding.md R72, R73). -/
def Obligations.DecodedWordIsItsEncoding : Prop :=
  ∀ (c : Word) (i : Instr), decode c = .ok i → i.wellFormed = true ∧ encode i = c

/-- spec/30_encoding.md R73: exactly the words it lists are illegal, and writing one to `CMD` raises `ILLEGAL` with no other
effect. -/
def Obligations.IllegalWordsFaultAndNoOthers : Prop :=
  ∀ c : Word,
    ((∃ e, decode c = .error e) ↔ isIllegalWord c) ∧
    ∀ (s : State) (rest : List HostEvent), isIllegalWord c → s.fault = false → s.host = .write 0x0C 4 c :: rest →
      step s = .next { afterAccess s rest .done with fault := true, err := .illegal, fcmd := c }

/-- The worked encodings of spec/30_encoding.md R81. -/
def Obligations.WorkedEncodingsDecode : Prop :=
  decode 0x00000000 = .ok .nop ∧ decode 0x00000001 = .ok (.csc 0 0) ∧ decode 0x00002402 = .ok (.lpf 4 1) ∧
  decode 0x000CC003 = .ok (.mest 6 3) ∧ decode 0x000CC904 = .ok (.delta 9 6 3) ∧
  decode 0x00014C05 = .ok (.subs 12 10) ∧ decode 0x00012E06 = .ok (.dct 14 9) ∧
  decode 0x0001D107 = .ok (.quant 17 14) ∧ decode 0x00023408 = .ok (.dcpred 20 17) ∧
  decode 0x00023709 = .ok (.zigzag 23 17) ∧ decode 0x0002E00A = .ok (.tokens 0 23) ∧
  decode 0x0000660B = .ok (.copy 6 3) ∧ decode 0x0000000C = .ok (.pdef 0 .fullsize) ∧
  decode 0x0000000D = .ok .frame ∧ decode 0x0000000E = .ok .endseq ∧
  (∃ e, decode 0x0000000F = .error e) ∧ (∃ e, decode 0x00800000 = .error e) ∧
  (∃ e, decode 0x00001E01 = .error e) ∧ (∃ e, decode 0x0000040A = .error e)

/-! ## Steps and the window -/

/-- A `CMD` write whose word decodes to `i` runs `exec i` on the state whose next access has been taken and answered
(spec/20_memory.md R57). The queue of accesses is the model's (log entry 1). -/
def Obligations.StepRunsTheDecodedCommand : Prop :=
  ∀ (s : State) (rest : List HostEvent) (c : Word) (i : Instr),
    s.host = .write 0x0C 4 c :: rest → decode c = .ok i → step s = exec i (afterAccess s rest .done)

/-- The engine executes nothing on its own (spec/70_reset_and_hazards.md R178). The step itself is the model's (log
entry 1). -/
def Obligations.IdleEngineStaysAsItIs : Prop := ∀ s : State, s.host = [] → step s = .next s

/-- spec/20_memory.md R53: an access that is not 32 bits wide, aligned and inside the window gets a bus error and changes
no state of the engine. The reply is the model's field (log entries 2, 8). -/
def Obligations.MalformedAccessGetsABusError : Prop :=
  ∀ (s : State) (rest : List HostEvent) (off size : Nat) (v : Word),
    (size ≠ 4 ∨ off % 4 ≠ 0 ∨ 256 ≤ off) →
    (s.host = .read off size :: rest ∨ s.host = .write off size v :: rest) →
      step s = .next (afterAccess s rest .busError)

/-- spec/20_memory.md R54: reads of reserved offsets and of write-only registers return 0; writes of reserved offsets and of
read-only registers are ignored. -/
def Obligations.UnmappedAndWrongDirectionAccesses : Prop :=
  ∀ (s : State) (rest : List HostEvent) (off : Nat) (v : Word), off % 4 = 0 → off < 256 →
    ((0x6C ≤ off ∨ off ∈ [0x08, 0x0C]) → s.host = .read off 4 :: rest →
      step s = .next (afterAccess s rest (.data 0))) ∧
    ((0x6C ≤ off ∨ off ∈ [0x00, 0x04, 0x20, 0x24, 0x28, 0x2C, 0x30, 0x38, 0x3C, 0x40, 0x4C, 0x50, 0x58, 0x60, 0x68]) →
      s.host = .write off 4 v :: rest → step s = .next (afterAccess s rest .done))

/-- spec/10_state.md R27 to R30, R36, R38, R40 and spec/20_memory.md R54, R66: a write of a configuration, select or pointer
register changes that register and nothing else, halted or not; reserved bits are dropped. -/
def Obligations.RegisterWritesChangeThatRegisterOnly : Prop :=
  ∀ (s : State) (rest : List HostEvent) (off : Nat) (v : Word), s.host = .write off 4 v :: rest →
    (off = 0x10 → step s = .next { afterAccess s rest .done with width := v }) ∧
    (off = 0x14 → step s = .next { afterAccess s rest .done with height := v }) ∧
    (off = 0x18 → step s = .next { afterAccess s rest .done with quality := v }) ∧
    (off = 0x1C → step s = .next { afterAccess s rest .done with ifreq := v }) ∧
    (off = 0x34 → ∃ p : PlaneReg, p.val = v.toNat % 32 ∧ step s = .next { afterAccess s rest .done with psel := p }) ∧
    (off = 0x44 → step s = .next { afterAccess s rest .done with paddr := v }) ∧
    (off = 0x54 → step s = .next { afterAccess s rest .done with mvaddr := v }) ∧
    (off = 0x5C → ∃ t : TokenReg, t.val = v.toNat % 4 ∧ step s = .next { afterAccess s rest .done with tksel := t }) ∧
    (off = 0x64 → step s = .next { afterAccess s rest .done with tkaddr := v })

/-- Every register read but the three data ports answers the register's value and leaves the engine as it is
(spec/10_state.md R23 to R32, R36, R38, R40, spec/20_memory.md R55). -/
def Obligations.RegisterReadsAnswerTheirRegister : Prop :=
  ∀ (s : State) (rest : List HostEvent) (off : Nat), s.host = .read off 4 :: rest →
    (off = 0x00 → step s = .next (afterAccess s rest (.data 0x50504501))) ∧
    (off = 0x10 → step s = .next (afterAccess s rest (.data s.width))) ∧
    (off = 0x14 → step s = .next (afterAccess s rest (.data s.height))) ∧
    (off = 0x18 → step s = .next (afterAccess s rest (.data s.quality))) ∧
    (off = 0x1C → step s = .next (afterAccess s rest (.data s.ifreq))) ∧
    (off = 0x20 ∨ off = 0x24 → step s = .next (afterAccess s rest (.data 16))) ∧
    (off = 0x28 → step s = .next (afterAccess s rest (.data s.frameIdx))) ∧
    (off = 0x2C → step s = .next (afterAccess s rest (.data s.cmdCount))) ∧
    (off = 0x30 → step s = .next (afterAccess s rest (.data s.fcmd))) ∧
    (off = 0x34 → step s = .next (afterAccess s rest (.data (BitVec.ofNat 32 s.psel.val)))) ∧
    (off = 0x44 → step s = .next (afterAccess s rest (.data s.paddr))) ∧
    (off = 0x54 → step s = .next (afterAccess s rest (.data s.mvaddr))) ∧
    (off = 0x5C → step s = .next (afterAccess s rest (.data (BitVec.ofNat 32 s.tksel.val)))) ∧
    (off = 0x64 → step s = .next (afterAccess s rest (.data s.tkaddr)))

/-- The derived views (spec/10_state.md R25, R36, R38, R40, with the codes of spec/60_exceptions.md R157 and the tag values of
spec/10_state.md R34): each read leaves the engine as it is and answers a word whose fields are as stated; the counts are
those of states that keep the invariant. -/
def Obligations.StatusViewsShowTheirFields : Prop :=
  ∀ (s : State) (rest : List HostEvent) (off : Nat), s.host = .read off 4 :: rest →
    off ∈ [0x04, 0x38, 0x3C, 0x40, 0x4C, 0x50, 0x60] →
    ∃ x : Word, step s = .next (afterAccess s rest (.data x)) ∧
      (off = 0x04 → x.getLsbD 0 = s.fault ∧ x.getLsbD 1 = s.havePrev ∧ (x.getLsbD 2 = true ↔ s.ftype = .pFrame) ∧
        x.getLsbD 3 = s.mvb.valid ∧ slice x 4 4 = 0 ∧ slice x 12 20 = 0 ∧
        (slice x 8 4 = 0 ↔ s.err = .none) ∧ (slice x 8 4 = 1 ↔ s.err = .illegal) ∧
        (slice x 8 4 = 2 ↔ s.err = .unwritten) ∧ (slice x 8 4 = 3 ↔ s.err = .tag) ∧
        (slice x 8 4 = 4 ↔ s.err = .shape) ∧ (slice x 8 4 = 5 ↔ s.err = .config) ∧
        (slice x 8 4 = 6 ↔ s.err = .resource) ∧ (slice x 8 4 = 7 ↔ s.err = .load) ∧
        (slice x 8 4 = 8 ↔ s.err = .backend)) ∧
      ((s.plane s.psel.val).state = .empty → off ∈ [0x38, 0x3C, 0x40, 0x4C] → x = 0) ∧
      ((s.plane s.psel.val).state ≠ .empty →
        (off = 0x38 → x = BitVec.ofNat 32 (s.plane s.psel.val).w) ∧
        (off = 0x3C → x = BitVec.ofNat 32 (s.plane s.psel.val).h) ∧
        (off = 0x4C → x = BitVec.ofNat 32 (s.plane s.psel.val).fill) ∧
        (off = 0x40 → (slice x 0 2 = 1 ↔ (s.plane s.psel.val).state = .loading) ∧
          (slice x 0 2 = 2 ↔ (s.plane s.psel.val).state = .valid) ∧
          (slice x 2 2 = 0 ↔ (s.plane s.psel.val).tag = .fullsize) ∧
          (slice x 2 2 = 1 ↔ (s.plane s.psel.val).tag = .downsample) ∧
          (slice x 2 2 = 2 ↔ (s.plane s.psel.val).tag = .dcdiff) ∧
          (slice x 2 2 = 3 ↔ (s.plane s.psel.val).tag = .zigzag) ∧ slice x 4 28 = 0)) ∧
      (off = 0x50 → x.getLsbD 31 = s.mvb.valid ∧ (s.mvb.valid = false → x = 0) ∧
        (s.mvb.valid = true → s.mvb.count < 2 ^ 31 → slice x 0 31 = s.mvb.count)) ∧
      (off = 0x60 → x.getLsbD 31 = (s.token s.tksel.val).valid ∧ ((s.token s.tksel.val).valid = false → x = 0) ∧
        ((s.token s.tksel.val).valid = true → (s.token s.tksel.val).len < 2 ^ 31 →
          slice x 0 31 = (s.token s.tksel.val).len))

/-- spec/20_memory.md R55: the read of any offset but `PDATA`, `MVDATA`, `TKDATA` is free of side effects. -/
def Obligations.OtherReadsHaveNoSideEffect : Prop :=
  ∀ (s : State) (rest : List HostEvent) (off size : Nat), s.host = .read off size :: rest →
    off ∉ [0x48, 0x58, 0x68] → ∃ r, step s = .next (afterAccess s rest r)

/-- spec/20_memory.md R58, one `PDATA` write: the sample is the value whose binary32 pattern is the word (with binary64 samples
that widening is the model's choice, log entry 6). -/
def Obligations.PdataWriteLoadsOneSample : Prop :=
  ∀ (s : State) (rest : List HostEvent) (v : Word), s.host = .write 0x48 4 v :: rest →
    (s.fault = true → step s = .next (afterAccess s rest .done)) ∧
    (s.fault = false → (s.plane s.psel.val).state ≠ .loading →
      step s = .next { afterAccess s rest .done with fault := true, err := .load, fcmd := 0 }) ∧
    (s.fault = false → (s.plane s.psel.val).state = .loading →
      ∃ t, step s = .next t ∧ t.host = rest ∧ t.reply = .done ∧ otherPlanesSame [s.psel.val] s t ∧
        t = { s with planes := t.planes, host := rest, reply := .done } ∧
        (t.plane s.psel.val).data = (s.plane s.psel.val).data ++ [ffrom s.params.format v] ∧
        (t.plane s.psel.val).fill = (s.plane s.psel.val).fill + 1 ∧
        (t.plane s.psel.val).w = (s.plane s.psel.val).w ∧ (t.plane s.psel.val).h = (s.plane s.psel.val).h ∧
        (t.plane s.psel.val).tag = (s.plane s.psel.val).tag ∧
        (t.plane s.psel.val).state =
          (if (s.plane s.psel.val).fill + 1 = (s.plane s.psel.val).w * (s.plane s.psel.val).h then .valid else .loading))

/-- spec/20_memory.md R58: the whole load. `w*h` writes to `PDATA` make a plane that `PDEF` has just defined `VALID`, holding
the samples written in index order, and change nothing else; the word of each sample is again the word written (how a word
becomes a binary64 sample is the model's choice, log entry 6). -/
def Obligations.PlaneLoadProtocolCompletes : Prop :=
  ∀ (s : State) (vs : List Word), s.fault = false → (s.plane s.psel.val).state = .loading →
    (s.plane s.psel.val).fill = 0 → (s.plane s.psel.val).data = [] → 0 < vs.length →
    vs.length = (s.plane s.psel.val).w * (s.plane s.psel.val).h →
    s.host = vs.map (fun v => .write 0x48 4 v) →
      ∃ t, Host.Core.run Sys2Proof.core vs.length s = .next t ∧
        t = { s with planes := t.planes, host := [], reply := .done } ∧ otherPlanesSame [s.psel.val] s t ∧
        t.plane s.psel.val =
          { s.plane s.psel.val with state := .valid, fill := vs.length, data := vs.map (ffrom s.params.format) } ∧
        ∀ k v, vs[k]? = some v → fbits s.params.format ((t.plane s.psel.val).nth k) = v

/-- spec/20_memory.md R59, a `PDATA` read. That a failed read advances the counter `draws`, and that its word is free, is the
model's form of the spec's draw (log entry 3); the word of a binary64 sample that is no binary32 value is free (log
entry 6). -/
def Obligations.PdataReadReturnsSampleAndAdvances : Prop :=
  ∀ (s : State) (rest : List HostEvent), s.host = .read 0x48 4 :: rest →
    let p := s.plane s.psel.val
    ((p.state = .valid ∧ s.paddr.toNat < p.w * p.h) →
      step s = .next { afterAccess s rest (.data (fbits s.params.format (p.nth s.paddr.toNat))) with paddr := s.paddr + 1 }) ∧
    (¬(p.state = .valid ∧ s.paddr.toNat < p.w * p.h) →
      ∃ x, step s = .next { afterAccess s rest (.data x) with draws := s.draws + 1 })

/-- spec/20_memory.md R60, spec/30_encoding.md R77, an `MVDATA` read. That a failed read advances the counter `draws`, and that
its word is free, is the model's form of the spec's draw (log entry 3). -/
def Obligations.MvdataReadReturnsVectorAndAdvances : Prop :=
  ∀ (s : State) (rest : List HostEvent), s.host = .read 0x58 4 :: rest → s.mvb.wf →
    (∀ v, s.mvb.valid = true → s.mvb.vec[s.mvaddr.toNat]? = some v →
      ∃ x : Word, step s = .next { afterAccess s rest (.data x) with mvaddr := s.mvaddr + 1 } ∧
        (x.extractLsb' 0 16).toInt = v.dx ∧ (x.extractLsb' 16 16).toInt = v.dy) ∧
    (¬(s.mvb.valid = true ∧ s.mvaddr.toNat < s.mvb.count) →
      ∃ x, step s = .next { afterAccess s rest (.data x) with draws := s.draws + 1 })

/-- spec/20_memory.md R61, a `TKDATA` read. That a failed read advances the counter `draws`, and that its word is free, is the
model's form of the spec's draw (log entry 3). -/
def Obligations.TkdataReadReturnsWordAndAdvances : Prop :=
  ∀ (s : State) (rest : List HostEvent), s.host = .read 0x68 4 :: rest →
    let b := s.token s.tksel.val
    b.word.length = b.len →
    (∀ x, b.valid = true → b.word[s.tkaddr.toNat]? = some x →
      step s = .next { afterAccess s rest (.data x) with tkaddr := s.tkaddr + 1 }) ∧
    (¬(b.valid = true ∧ s.tkaddr.toNat < b.len) →
      ∃ x, step s = .next { afterAccess s rest (.data x) with draws := s.draws + 1 })

/-! ## Faults -/

/-- spec/60_exceptions.md R161: while halted every command, decoded or not, and every `PDATA` write is ignored. -/
def Obligations.HaltedEngineIgnoresCommandsAndLoads : Prop :=
  ∀ s : State, s.fault = true →
    (∀ i, exec i s = .next s) ∧
    ∀ (rest : List HostEvent) (v : Word),
      (s.host = .write 0x0C 4 v :: rest ∨ s.host = .write 0x48 4 v :: rest) →
        step s = .next (afterAccess s rest .done)

/-- spec/60_exceptions.md R158, R160 and spec/10_state.md R32: a command that starts on a running engine either records a
fault (its code one that a command can raise, its word, and nothing else changed) or completes, records none, and counts
once. -/
def Obligations.CommandFaultsPreciselyOrCompletes : Prop :=
  ∀ (i : Instr) (s : State), s.fault = false →
    (∃ code, code ∈ [FaultCode.illegal, .unwritten, .tag, .shape, .config, .resource] ∧ faultsWith i s code) ∨
    (∃ t, exec i s = .next t ∧ t.fault = false ∧ t.err = s.err ∧ t.fcmd = s.fcmd ∧ t.cmdCount = s.cmdCount + 1)

/-- A term with a triple base of 30 or 31 has an illegal word, and raises `ILLEGAL` with it (spec/30_encoding.md R73; that
the meaning itself does so is the model's, log entry 13). -/
def Obligations.IllFormedTripleRaisesIllegal : Prop :=
  ∀ (i : Instr) (s : State), s.fault = false → i.wellFormed = false → faultsWith i s .illegal

/-- spec/60_exceptions.md R161, R162: a step that starts halted changes none of the planes, token registers, `MVB`,
counters, sequence and fault registers, unless it is a reset. -/
def Obligations.FaultStaysUntilReset : Prop :=
  ∀ s t : State, s.fault = true → step s = .next t →
    (∀ rest, s.host ≠ .hardReset :: rest) → (∀ v rest, s.host = .write 0x08 4 v :: rest → v.getLsbD 0 = false) →
      sequenceSame s t ∧ t.planes = s.planes ∧ t.tokens = s.tokens ∧ t.mvb = s.mvb ∧ t.cmdCount = s.cmdCount

/-! ## Housekeeping commands -/

/-- spec/49_frame_control.md R144. -/
def Obligations.NopCountsOnly : Prop :=
  ∀ s : State, (s.fault = false → exec .nop s = .next { s with cmdCount := s.cmdCount + 1 }) ∧
    (s.fault = true → exec .nop s = .next s)

/-- spec/49_frame_control.md R145. -/
def Obligations.CopyMakesAnEqualPlane : Prop :=
  ∀ (s : State) (d a : PlaneReg), s.fault = false →
    ((s.plane a.val).state ≠ .valid → faultsWith (.copy d a) s .unwritten) ∧
    ((s.plane a.val).state = .valid →
      ∃ t, exec (.copy d a) s = .next t ∧ planeFrame [d.val] s t ∧
        t.plane d.val = { s.plane a.val with fill := (s.plane a.val).w * (s.plane a.val).h } ∧
        (d = a → (s.plane a.val).fill = (s.plane a.val).w * (s.plane a.val).h → t.planes = s.planes))

/-- spec/49_frame_control.md R146. -/
def Obligations.PdefStartsALoad : Prop :=
  ∀ (s : State) (d : PlaneReg) (tag : Tag), s.fault = false →
    ((s.width = 0 ∨ s.height = 0) → faultsWith (.pdef d tag) s .config) ∧
    (s.width ≠ 0 → s.height ≠ 0 → s.params.planeCap < s.width.toNat * s.height.toNat →
      faultsWith (.pdef d tag) s .resource) ∧
    (s.width ≠ 0 → s.height ≠ 0 → s.width.toNat * s.height.toNat ≤ s.params.planeCap →
      ∃ t, exec (.pdef d tag) s = .next t ∧ planeFrame [d.val] s t ∧
        (t.plane d.val).state = .loading ∧ (t.plane d.val).w = s.width.toNat ∧ (t.plane d.val).h = s.height.toNat ∧
        (t.plane d.val).tag = tag ∧ (t.plane d.val).fill = 0)

/-- spec/49_frame_control.md R152. That the vectors behind the cleared `MVB.valid` are kept is the model's choice (log
entry 9). -/
def Obligations.EndseqFreesThePreviousFrame : Prop :=
  ∀ s : State, s.fault = false →
    ∃ t, exec .endseq s = .next t ∧ hostSideSame s t ∧ otherPlanesSame [6, 7, 8] s t ∧ otherTokensSame [] s t ∧
      (t.plane 6).state = .empty ∧ (t.plane 7).state = .empty ∧ (t.plane 8).state = .empty ∧
      t.havePrev = false ∧ t.mvb = { s.mvb with valid := false } ∧ t.frameIdx = 0 ∧ t.cmdCount = s.cmdCount + 1 ∧
      t.ftype = s.ftype ∧ t.fault = false ∧ t.err = s.err ∧ t.fcmd = s.fcmd

/-! ## The stages -/

/-- spec/40_color_convert.md R90, R91: checks in order, the three formulas with their literals and order, any overlap. -/
def Obligations.CscConvertsEachPixel : Prop :=
  ∀ (s : State) (d a : PlaneReg), s.fault = false → d.val ≤ 29 → a.val ≤ 29 →
    let w := (s.plane a.val).w
    let h := (s.plane a.val).h
    let ks := tripleAt a.val
    (¬allValidAt s ks → faultsWith (.csc d a) s .unwritten) ∧
    (allValidAt s ks → ¬allTaggedAt s [.fullsize] ks → faultsWith (.csc d a) s .tag) ∧
    (allValidAt s ks → allTaggedAt s [.fullsize] ks → ¬allSizedAt s w h ks → faultsWith (.csc d a) s .shape) ∧
    (allValidAt s ks → allTaggedAt s [.fullsize] ks → allSizedAt s w h ks →
      ∃ t, exec (.csc d a) s = .next t ∧ planeFrame (tripleAt d.val) s t ∧
        (∀ k ∈ tripleAt d.val, isPlane (t.plane k) w h .fullsize) ∧
        ∀ k < w * h,
          let r := (s.plane a.val).nth k
          let g := (s.plane (a.val + 1)).nth k
          let b := (s.plane (a.val + 2)).nth k
          let n := s.arith
          let f := s.params.format
          (t.plane d.val).nth k =
            fadd n (fadd n (fmul n (lit f 0x3E991687 0x3FD322D0E5604189) r) (fmul n (lit f 0x3F1645A2 0x3FE2C8B439581062) g))
              (fmul n (lit f 0x3DE76C8B 0x3FBCED916872B021) b) ∧
          (t.plane (d.val + 1)).nth k =
            fadd n (fsub n (fsub n (c128 f) (fmul n (lit f 0x3E2CC921 0x3FC5992428D434A0) r))
              (fmul n (lit f 0x3EA99B6F 0x3FD5336DEB95E5B0) g)) (fmul n (half f) b) ∧
          (t.plane (d.val + 2)).nth k =
            fsub n (fsub n (fadd n (c128 f) (fmul n (half f) r)) (fmul n (lit f 0x3ED65E46 0x3FDACBC8C0CE91C9) g))
              (fmul n (lit f 0x3DA686E8 0x3FB4D0DCFCC5B8DC) b))

/-- spec/41_chroma_lowpass.md R95 to R97: the border is copied, an interior sample is the tap of the horizontal pass's
results above, at and below it; with `LPF_VPASS = in_place` the sample above is the output's own. -/
def Obligations.LpfSmoothsInTwoPasses : Prop :=
  ∀ (s : State) (d a : PlaneReg), s.fault = false →
    let p := s.plane a.val
    (p.state ≠ .valid → faultsWith (.lpf d a) s .unwritten) ∧
    (p.state = .valid → p.tag ≠ .fullsize → faultsWith (.lpf d a) s .tag) ∧
    (p.state = .valid → p.tag = .fullsize →
      ∃ t, exec (.lpf d a) s = .next t ∧ planeFrame [d.val] s t ∧ isPlane (t.plane d.val) p.w p.h .fullsize ∧
        ∀ x < p.w, ∀ y < p.h,
          (t.plane d.val).sample x y =
            if 1 ≤ x ∧ x + 2 ≤ p.w ∧ 1 ≤ y ∧ y + 2 ≤ p.h then
              tap s.arith
                (match s.params.lpfVpass with
                  | .buffered => horizontal s.arith p x (y - 1)
                  | .inPlace => (t.plane d.val).sample x (y - 1))
                (horizontal s.arith p x y) (horizontal s.arith p x (y + 1))
            else p.sample x y)

/-- spec/41_chroma_lowpass.md R99: smoothing a constant plane gives the same constant, bit for bit, for every constant that
is zero or of magnitude at least four times the smallest normal value: 2^-124 in binary32, which R99 speaks of, and 2^-1020
in binary64, where its argument is the same. -/
def Obligations.LpfKeepsAConstantPlane : Prop :=
  ∀ (s : State) (d a : PlaneReg) (c : Sample), s.fault = false →
    (s.plane a.val).state = .valid → (s.plane a.val).tag = .fullsize →
    let f := s.params.format
    isFinite f c = true → (fmag f c = 0 ∨ 3 * 2 ^ f.fracBits ≤ fmag f c) →
    (∀ k < (s.plane a.val).w * (s.plane a.val).h, (s.plane a.val).nth k = c) →
      ∃ t, exec (.lpf d a) s = .next t ∧ ∀ k < (s.plane a.val).w * (s.plane a.val).h, (t.plane d.val).nth k = c

/-- spec/42_motion_estimator.md R100, spec/00_scope.md R18: the checks, one vector a searched macroblock, and what is left
unchanged. -/
def Obligations.MestFillsTheVectorBuffer : Prop :=
  ∀ (s : State) (a b : PlaneReg), s.fault = false → a.val ≤ 29 → b.val ≤ 29 →
    let w := (s.plane a.val).w
    let h := (s.plane a.val).h
    let ks := bothTriples a.val b.val
    (¬allValidAt s ks → faultsWith (.mest a b) s .unwritten) ∧
    (allValidAt s ks → ¬allTaggedAt s [.fullsize] ks → faultsWith (.mest a b) s .tag) ∧
    (allValidAt s ks → allTaggedAt s [.fullsize] ks → ¬allSizedAt s w h ks → faultsWith (.mest a b) s .shape) ∧
    (allValidAt s ks → allTaggedAt s [.fullsize] ks → allSizedAt s w h ks →
      ∃ t, exec (.mest a b) s = .next t ∧ hostSideSame s t ∧ sequenceSame s t ∧ t.planes = s.planes ∧
        t.tokens = s.tokens ∧ t.cmdCount = s.cmdCount + 1 ∧
        t.mvb.valid = true ∧ t.mvb.w = w ∧ t.mvb.h = h ∧ t.mvb.count = (w - 32) / 16 * ((h - 32) / 16) ∧
        t.mvb.vec.length = t.mvb.count ∧
        ∀ v ∈ t.mvb.vec, -16 ≤ v.dx ∧ v.dx ≤ 15 ∧ -16 ≤ v.dy ∧ v.dy ≤ 15)

/-- spec/42_motion_estimator.md R101 to R104: when the first candidate's cost is no NaN, the vector of each searched block is
the first candidate in scan order of least cost among those whose cost is no NaN; when it is one, `(-16, -16)`. With
`MEST_TIE = last` it is the last of least cost (spec/90_conflicts.md C2; what a NaN does then is log entry 15). -/
def Obligations.MestPicksTheFirstLeastCost : Prop :=
  ∀ (s : State) (a b : PlaneReg), s.fault = false → a.val ≤ 29 → b.val ≤ 29 →
    let w := (s.plane a.val).w
    let h := (s.plane a.val).h
    let ks := bothTriples a.val b.val
    let f := s.params.format
    allValidAt s ks → allTaggedAt s [.fullsize] ks → allSizedAt s w h ks →
      ∃ t, exec (.mest a b) s = .next t ∧
        ∀ gx < (w - 32) / 16, ∀ gy < (h - 32) / 16,
          let c := cost s a.val b.val gx gy
          (isNaN f (c 0 0) = false →
            ∃ i j : Nat, i < 32 ∧ j < 32 ∧
              t.mvb.vec[gy * ((w - 32) / 16) + gx]? = some { dx := (i : Int) - 16, dy := (j : Int) - 16 } ∧
              isNaN f (c i j) = false ∧
              (∀ i' j' : Nat, i' < 32 → j' < 32 → flt f (c i' j') (c i j) = false) ∧
              (∀ i' j' : Nat, i' < 32 → j' < 32 → isNaN f (c i' j') = false →
                (match s.params.mestTie with
                  | .first => j' * 32 + i' < j * 32 + i
                  | .last => j * 32 + i < j' * 32 + i') → flt f (c i j) (c i' j') = true)) ∧
          (isNaN f (c 0 0) = true →
            t.mvb.vec[gy * ((w - 32) / 16) + gx]? = some { dx := -16, dy := -16 })

/-- spec/42_motion_estimator.md R106, spec/90_conflicts.md C5: on flat frames every candidate costs 0 and the earliest wins,
so every vector is `(-16, -16)`. -/
def Obligations.MestOnFlatFramesGivesTheEarliest : Prop :=
  ∀ (s : State) (a b : PlaneReg) (v : Nat → Sample), s.fault = false → a.val ≤ 29 → b.val ≤ 29 →
    s.params.mestTie = .first →
    let w := (s.plane a.val).w
    let h := (s.plane a.val).h
    let ks := bothTriples a.val b.val
    allValidAt s ks → allTaggedAt s [.fullsize] ks → allSizedAt s w h ks →
    (∀ c < 3, isFinite s.params.format (v c) = true ∧
      ∀ k < w * h, (s.plane (a.val + c)).nth k = v c ∧ (s.plane (b.val + c)).nth k = v c) →
      ∃ t, exec (.mest a b) s = .next t ∧ ∀ m ∈ t.mvb.vec, m = { dx := -16, dy := -16 }

/-- spec/43_delta_subsample.md R110, R111: inside searched macroblock `(gx, gy)` target minus displaced reference, elsewhere
the target. -/
def Obligations.DeltaSubtractsTheDisplacedReference : Prop :=
  ∀ (s : State) (d a b : PlaneReg), s.fault = false → d.val ≤ 29 → a.val ≤ 29 → b.val ≤ 29 →
    let w := (s.plane a.val).w
    let h := (s.plane a.val).h
    let ks := bothTriples a.val b.val
    let sized := allSizedAt s w h ks ∧ s.mvb.w = w ∧ s.mvb.h = h
    (¬(allValidAt s ks ∧ s.mvb.valid = true) → faultsWith (.delta d a b) s .unwritten) ∧
    (allValidAt s ks → s.mvb.valid = true → ¬allTaggedAt s [.fullsize] ks → faultsWith (.delta d a b) s .tag) ∧
    (allValidAt s ks → s.mvb.valid = true → allTaggedAt s [.fullsize] ks → ¬sized →
      faultsWith (.delta d a b) s .shape) ∧
    (allValidAt s ks → s.mvb.valid = true → allTaggedAt s [.fullsize] ks → sized →
      ∃ t, exec (.delta d a b) s = .next t ∧ planeFrame (tripleAt d.val) s t ∧
        (∀ k ∈ tripleAt d.val, isPlane (t.plane k) w h .fullsize) ∧
        ∀ c < 3,
          (∀ gx < (w - 32) / 16, ∀ gy < (h - 32) / 16, ∀ m, s.mvb.vec[gy * ((w - 32) / 16) + gx]? = some m →
            ∀ i < 16, ∀ j < 16,
              let x := 16 + 16 * gx + i
              let y := 16 + 16 * gy + j
              (t.plane (d.val + c)).sample x y =
                fsub s.arith ((s.plane (b.val + c)).sample x y)
                  ((s.plane (a.val + c)).sample (x + m.dx).toNat (y + m.dy).toNat)) ∧
          (∀ x < w, ∀ y < h, (x < 16 ∨ y < 16 ∨ 16 + 16 * ((w - 32) / 16) ≤ x ∨ 16 + 16 * ((h - 32) / 16) ≤ y) →
            (t.plane (d.val + c)).sample x y = (s.plane (b.val + c)).sample x y))

/-- spec/43_delta_subsample.md R114: point sampling of the even positions, never an average (R115). -/
def Obligations.SubsTakesEvenSamples : Prop :=
  ∀ (s : State) (d a : PlaneReg), s.fault = false →
    let p := s.plane a.val
    (p.state ≠ .valid → faultsWith (.subs d a) s .unwritten) ∧
    (p.state = .valid → p.tag ≠ .fullsize → faultsWith (.subs d a) s .tag) ∧
    (p.state = .valid → p.tag = .fullsize → ¬blocked 2 p → faultsWith (.subs d a) s .shape) ∧
    (p.state = .valid → p.tag = .fullsize → blocked 2 p →
      ∃ t, exec (.subs d a) s = .next t ∧ planeFrame [d.val] s t ∧
        isPlane (t.plane d.val) (p.w / 2) (p.h / 2) .downsample ∧
        ∀ x < p.w / 2, ∀ y < p.h / 2, (t.plane d.val).sample x y = p.sample (2 * x) (2 * y))

/-- spec/44_dct.md R118, R120, R121: the source is left level-shifted, the destination holds the coefficients, `d = a` ends
with the coefficients. -/
def Obligations.DctShiftsAndTransforms : Prop :=
  ∀ (s : State) (d a : PlaneReg), s.fault = false →
    let p := s.plane a.val
    let n := s.arith
    (p.state ≠ .valid → faultsWith (.dct d a) s .unwritten) ∧
    (p.state = .valid → p.tag ∉ [Tag.fullsize, .downsample] → faultsWith (.dct d a) s .tag) ∧
    (p.state = .valid → p.tag ∈ [Tag.fullsize, .downsample] → ¬blocked 8 p → faultsWith (.dct d a) s .shape) ∧
    (p.state = .valid → p.tag ∈ [Tag.fullsize, .downsample] → blocked 8 p →
      ∃ t, exec (.dct d a) s = .next t ∧ planeFrame [d.val, a.val] s t ∧ isPlane (t.plane d.val) p.w p.h p.tag ∧
        (d ≠ a → t.plane a.val = { p with data := (t.plane a.val).data } ∧
          (t.plane a.val).data.length = p.w * p.h ∧
          ∀ k < p.w * p.h, (t.plane a.val).nth k = fsub n (p.nth k) (c128 n.format)) ∧
        ∀ bi < p.w / 8, ∀ bj < p.h / 8, ∀ u < 8, ∀ v < 8,
          (t.plane d.val).sample (8 * bi + u) (8 * bj + v) =
            coefficient n s.params (fun x y => fsub n (p.sample (8 * bi + x) (8 * bj + y)) (c128 n.format)) u v)

/-- spec/44_dct.md R123 (3): a plane of samples all equal to 128 gives coefficients that are all `+0`, with the default
tables of the sample format. -/
def Obligations.DctOfMidGreyIsAllPlusZero : Prop :=
  ∀ (s : State) (d a : PlaneReg), s.fault = false → s.params.cos = defaultCos s.params.format →
    s.params.cn = defaultCn s.params.format →
    (s.plane a.val).state = .valid → (s.plane a.val).tag ∈ [Tag.fullsize, .downsample] → blocked 8 (s.plane a.val) →
    (∀ k < (s.plane a.val).w * (s.plane a.val).h, (s.plane a.val).nth k = c128 s.params.format) →
      ∃ t, exec (.dct d a) s = .next t ∧
        ∀ k < (s.plane a.val).w * (s.plane a.val).h, (t.plane d.val).nth k = 0

/-- spec/45_quantizer.md R125, R127, R128. How `QUALITY`, a 32-bit pattern, becomes a binary64 value is the model's choice (log
entry 6). -/
def Obligations.QuantDividesByTheEffectiveStep : Prop :=
  ∀ (s : State) (d a : PlaneReg), s.fault = false →
    let p := s.plane a.val
    let n := s.arith
    (¬qualityLegal s.quality → faultsWith (.quant d a) s .config) ∧
    (qualityLegal s.quality → p.state ≠ .valid → faultsWith (.quant d a) s .unwritten) ∧
    (qualityLegal s.quality → p.state = .valid → p.tag ∉ [Tag.fullsize, .downsample] →
      faultsWith (.quant d a) s .tag) ∧
    (qualityLegal s.quality → p.state = .valid → p.tag ∈ [Tag.fullsize, .downsample] → ¬blocked 8 p →
      faultsWith (.quant d a) s .shape) ∧
    (qualityLegal s.quality → p.state = .valid → p.tag ∈ [Tag.fullsize, .downsample] → blocked 8 p →
      ∃ t, exec (.quant d a) s = .next t ∧ planeFrame [d.val] s t ∧ isPlane (t.plane d.val) p.w p.h p.tag ∧
        ∀ x < p.w, ∀ y < p.h,
          (t.plane d.val).sample x y =
            fround n s.params.roundTies (fdiv n (p.sample x y)
              (fceil n (fdiv n (s.params.qmat.getD (8 * (y % 8) + x % 8) 0) (ffrom s.params.format s.quality)))))

/-- spec/45_quantizer.md R127: with the default `QMAT` of the sample format, for every legal quality, every step is at least 1
(in binary32 it may be `+Inf`), so no division by zero occurs. R127 says so of binary32; of binary64, with `QUALITY` widened
(log entry 6), it is derived alike. -/
def Obligations.QuantStepIsAtLeastOne : Prop :=
  ∀ (n : Arith) (p : Params) (q : Word) (r c : Nat), p.qmat = defaultQmat n.format → qualityLegal q → r < 8 → c < 8 →
    isNaN n.format (quantStep n p (ffrom n.format q) r c) = false ∧
      flt n.format (quantStep n p (ffrom n.format q) r c) (lit n.format 0x3F800000 0x3FF0000000000000) = false

/-- spec/46_dc_predictor.md R130, R131: the DC of each block less that of the block before it, column-major, the first kept;
stored by `DCD_LAYOUT`. -/
def Obligations.DcpredDifferencesColumnMajor : Prop :=
  ∀ (s : State) (d a : PlaneReg), s.fault = false →
    let p := s.plane a.val
    let nbx := p.w / 8
    let nby := p.h / 8
    let dc := fun bi bj => p.sample (8 * bi) (8 * bj)
    (p.state ≠ .valid → faultsWith (.dcpred d a) s .unwritten) ∧
    (p.state = .valid → p.tag ∉ [Tag.fullsize, .downsample] → faultsWith (.dcpred d a) s .tag) ∧
    (p.state = .valid → p.tag ∈ [Tag.fullsize, .downsample] → ¬blocked 8 p → faultsWith (.dcpred d a) s .shape) ∧
    (p.state = .valid → p.tag ∈ [Tag.fullsize, .downsample] → blocked 8 p →
      ∃ t, exec (.dcpred d a) s = .next t ∧ planeFrame [d.val] s t ∧ isPlane (t.plane d.val) nbx nby .dcdiff ∧
        ∀ bi < nbx, ∀ bj < nby,
          (t.plane d.val).nth
              (match s.params.dcdLayout with
                | .traversal => bi * nby + bj
                | .spatial => bj * nbx + bi) =
            if bj = 0 then (if bi = 0 then dc 0 0 else fsub s.arith (dc bi 0) (dc (bi - 1) (nby - 1)))
            else fsub s.arith (dc bi bj) (dc bi (bj - 1)))

/-- spec/47_zigzag.md R134: row `n` of the output is block `n`'s sequence, `out[k] = in[ZZ[k]]`. -/
def Obligations.ZigzagPermutesEachBlock : Prop :=
  ∀ (s : State) (d a : PlaneReg), s.fault = false →
    let p := s.plane a.val
    let nbx := p.w / 8
    let nby := p.h / 8
    (p.state ≠ .valid → faultsWith (.zigzag d a) s .unwritten) ∧
    (p.state = .valid → p.tag ∉ [Tag.fullsize, .downsample] → faultsWith (.zigzag d a) s .tag) ∧
    (p.state = .valid → p.tag ∈ [Tag.fullsize, .downsample] → ¬blocked 8 p → faultsWith (.zigzag d a) s .shape) ∧
    (p.state = .valid → p.tag ∈ [Tag.fullsize, .downsample] → blocked 8 p →
      ∃ t, exec (.zigzag d a) s = .next t ∧ planeFrame [d.val] s t ∧
        isPlane (t.plane d.val) 64 (nbx * nby) .zigzag ∧
        ∀ bi < nbx, ∀ bj < nby, ∀ k < 64,
          (t.plane d.val).nth (64 * (bj * nbx + bi) + k) =
            p.sample (8 * bi + s.params.zz.getD k 0 % 8) (8 * bj + s.params.zz.getD k 0 / 8))

/-- With a permutation as `ZZ` (spec/47_zigzag.md R135), no coefficient of a block is lost or repeated: the sequence of a
block holds each of its 64 samples once. -/
def Obligations.ZigzagLosesNoCoefficient : Prop :=
  ∀ (s : State) (d a : PlaneReg), s.fault = false → s.params.wf →
    (s.plane a.val).state = .valid → (s.plane a.val).tag ∈ [Tag.fullsize, .downsample] → blocked 8 (s.plane a.val) →
      ∃ t, exec (.zigzag d a) s = .next t ∧
        ∀ bi < (s.plane a.val).w / 8, ∀ bj < (s.plane a.val).h / 8,
          ((List.range 64).map fun k => (t.plane d.val).nth (64 * (bj * ((s.plane a.val).w / 8) + bi) + k)).Perm
            ((List.range 64).map fun k => (s.plane a.val).sample (8 * bi + k % 8) (8 * bj + k / 8))

/-- spec/48_token_encoder.md R138, R139. The payload of a literal whose binary64 value is no binary32 value is free (log
entry 6). -/
def Obligations.TokensEncodesEachRow : Prop :=
  ∀ (s : State) (r : TokenReg) (a : PlaneReg), s.fault = false →
    let p := s.plane a.val
    (p.state ≠ .valid → faultsWith (.tokens r a) s .unwritten) ∧
    (p.state = .valid → p.tag ≠ .zigzag → faultsWith (.tokens r a) s .tag) ∧
    (p.state = .valid → p.tag = .zigzag → p.w ≠ 64 → faultsWith (.tokens r a) s .shape) ∧
    (p.state = .valid → p.tag = .zigzag → p.w = 64 →
      ∃ t, exec (.tokens r a) s = .next t ∧ hostSideSame s t ∧ sequenceSame s t ∧ t.planes = s.planes ∧
        t.mvb = s.mvb ∧ otherTokensSame [r.val] s t ∧ t.cmdCount = s.cmdCount + 1 ∧
        (t.token r.val).valid = true ∧ (t.token r.val).len = (t.token r.val).word.length ∧
        (t.token r.val).word =
          (List.range p.h).flatMap fun n => blockTokens s.params.format (fun k => p.sample k n) ++ [0x80000000, 0])

/-- spec/48_token_encoder.md R141: each block takes between 4 and 128 words. -/
def Obligations.TokenStreamLengthIsBounded : Prop :=
  ∀ (s t : State) (r : TokenReg) (a : PlaneReg), s.fault = false → (s.plane a.val).state = .valid →
    (s.plane a.val).tag = .zigzag → (s.plane a.val).w = 64 →
    exec (.tokens r a) s = .next t →
      4 * (s.plane a.val).h ≤ (t.token r.val).len ∧ (t.token r.val).len ≤ 128 * (s.plane a.val).h ∧
        (t.token r.val).len % 2 = 0

/-- spec/48_token_encoder.md R142, spec/90_conflicts.md C8: 63 zeros of either sign give the one token `Z63`; 63 coefficients
that are not zero give 63 literals. -/
def Obligations.TokensOfZeroAndOfFullBlocks : Prop :=
  ∀ (f : SampleFormat) (p : Plane) (n : Nat),
    ((∀ k, 1 ≤ k → k < 64 → feq f (p.sample k n) 0 = true) → encodeBlock f p n = [0x4000003F, 0]) ∧
    ((∀ k, 1 ≤ k → k < 64 → feq f (p.sample k n) 0 = false) →
      encodeBlock f p n = (List.range 63).flatMap fun k => [0, fbits f (p.sample (k + 1) n)])

/-! ## FRAME -/

/-- spec/49_frame_control.md R147: the checks of `FRAME`, in order. -/
def Obligations.FrameChecksInOrder : Prop :=
  ∀ s : State, s.fault = false →
    (¬frameConfigured s → faultsWith .frame s .config) ∧
    (frameConfigured s → ¬frameLoaded s → faultsWith .frame s .unwritten) ∧
    (frameConfigured s → frameLoaded s → ¬frameTagged s → faultsWith .frame s .tag) ∧
    (frameConfigured s → frameLoaded s → frameTagged s → ¬frameSized s → faultsWith .frame s .shape)

/-- spec/49_frame_control.md R147 to R151: a `FRAME` whose checks hold completes; the flags, the counters and the registers of
R148's table afterwards, and what it does not touch. -/
def Obligations.FrameCompletesAndFillsItsRegisters : Prop :=
  ∀ s : State, s.fault = false → frameReady s →
    let w := s.width.toNat
    let h := s.height.toNat
    ∃ t, exec .frame s = .next t ∧ hostSideSame s t ∧ t.fault = false ∧ t.err = s.err ∧ t.fcmd = s.fcmd ∧
      t.havePrev = true ∧ (t.ftype = .pFrame ↔ pType s) ∧ t.frameIdx = s.frameIdx + 1 ∧
      t.cmdCount = s.cmdCount + 1 ∧
      (∀ k < 12, isPlane (t.plane k) w h .fullsize) ∧
      (∀ k ∈ [12, 13, 15, 16, 18, 19], isPlane (t.plane k) (w / 2) (h / 2) .downsample) ∧
      (∀ k ∈ [14, 17], isPlane (t.plane k) w h .fullsize) ∧
      isPlane (t.plane 20) (w / 8) (h / 8) .dcdiff ∧
      (∀ k ∈ [21, 22], isPlane (t.plane k) (w / 16) (h / 16) .dcdiff) ∧
      isPlane (t.plane 23) 64 (w * h / 64) .zigzag ∧
      (∀ k ∈ [24, 25], isPlane (t.plane k) 64 (w * h / 256) .zigzag) ∧
      (∀ k, 26 ≤ k → k < 32 → t.plane k = s.plane k) ∧
      t.plane 6 = t.plane 3 ∧ t.plane 7 = t.plane 4 ∧ t.plane 8 = t.plane 5 ∧ t.plane 3 = t.plane 0 ∧
      (∀ k < 3, (t.token k).valid = true) ∧ t.token 3 = s.token 3 ∧
      (t.mvb.valid = true ↔ pType s) ∧
      (pType s → t.mvb.w = w ∧ t.mvb.h = h ∧ t.mvb.count = (w - 32) / 16 * ((h - 32) / 16))

/-- spec/49_frame_control.md R149, R154: a `FRAME` whose checks hold does exactly what its stage commands do one after
another from the state after step 0, none of them faulting; it counts once. That step 0 keeps what stands behind the cleared
valid bits of the token registers and `MVB` is the model's choice (log entry 9). -/
def Obligations.FrameIsTheSequenceOfItsStages : Prop :=
  ∀ s : State, s.fault = false → frameReady s →
    ∃ s0 u : State, hostSideSame s s0 ∧ sequenceSame s s0 ∧ s0.cmdCount = s.cmdCount ∧ s0.draws = s.draws ∧
      (∀ k < 32, s0.plane k = if 9 ≤ k ∧ k ≤ 25 then Plane.empty else s.plane k) ∧
      (∀ k < 4, s0.token k = if k < 3 then { s.token k with valid := false } else s.token k) ∧
      s0.mvb = { s.mvb with valid := false } ∧
      runAll (expansion (decide (s.frameIdx.toNat % s.ifreq.toNat ≠ 0))) s0 = some u ∧
      exec .frame s = .next { u with
        havePrev := true
        ftype := if s.frameIdx.toNat % s.ifreq.toNat ≠ 0 then .pFrame else .iFrame
        frameIdx := s.frameIdx + 1
        cmdCount := s.cmdCount + 1 }

/-! ## The whole machine -/

/-- spec/70_reset_and_hazards.md R187: every access, with the command it issues, ends; nothing stops the machine. -/
def Obligations.EveryStepAnswersANextState : Prop := ∀ s : State, ∃ t, step s = .next t

/-- The invariants of spec/10_state.md R33, R35, R37, R39, R32 and spec/60_exceptions.md R157 are kept by every step from
every state that has them, with every setting of the parameters. -/
def Obligations.EveryStepKeepsTheInvariant : Prop :=
  ∀ s t : State, s.wf → step s = .next t → t.wf

/-- The invariant holds at reset. -/
def Obligations.ResetHasTheInvariant : Prop := State.reset.wf

/-- spec/10_state.md R42: no command and no host access changes the tables and constants. -/
def Obligations.NoStepChangesTheParameters : Prop := ∀ s t : State, step s = .next t → t.params = s.params

/-- spec/10_state.md R27 to R30, spec/70_reset_and_hazards.md R185: no command writes a configuration, select or pointer
register. -/
def Obligations.NoCommandWritesHostRegisters : Prop :=
  ∀ (i : Instr) (s t : State), exec i s = .next t → hostSideSame s t

/-- spec/10_state.md R25, R32, R37, R39: of the commands, only `FRAME` and `ENDSEQ` change `HAVE_PREV` and `FRAMEIDX`, only
`FRAME` changes `FTYPE`, only `MEST`, `FRAME` and `ENDSEQ` change `MVB`, only `TOKENS` and `FRAME` a token register. -/
def Obligations.OnlyTheNamedCommandsChangeSequenceState : Prop :=
  ∀ (i : Instr) (s t : State), exec i s = .next t →
    (i ≠ .frame → i ≠ .endseq → t.havePrev = s.havePrev ∧ t.frameIdx = s.frameIdx) ∧
    (i ≠ .frame → t.ftype = s.ftype) ∧
    (i ≠ .frame → i ≠ .endseq → (∀ a b, i ≠ .mest a b) → t.mvb = s.mvb) ∧
    (i ≠ .frame → (∀ r a, i ≠ .tokens r a) → t.tokens = s.tokens)

/-! ## The arithmetic primitives -/

/-- spec/00_scope.md R9: `fadd` and `fsub` of finite values are correctly rounded in the format; an exact zero sum is `+0`
unless both terms are negative zeros (that sign, and the infinity a sum overflows to, are IEEE 754's: log entry 21). -/
def Obligations.AddAndSubAreCorrectlyRounded : Prop :=
  ∀ (n : Arith) (a b : Sample),
    let f := n.format
    let negZero := lit f 0x80000000 0x8000000000000000
    isFinite f a = true → isFinite f b = true →
      correctlyRounded f (fadd n a b) (sunits f a + sunits f b) 1 ∧
      correctlyRounded f (fsub n a b) (sunits f a - sunits f b) 1 ∧
      (sunits f a + sunits f b = 0 → fadd n a b = if fsign f a && fsign f b then negZero else 0) ∧
      (sunits f a - sunits f b = 0 → fsub n a b = if fsign f a && !fsign f b then negZero else 0)

/-- spec/00_scope.md R9: `fmul` and `fdiv` of finite values are correctly rounded in the format, and their sign is the
exclusive or of the signs. The sign of a zero result, overflow to infinity and division by zero are IEEE 754's (log
entry 21): a value that is not zero by zero is infinite, zero by zero is a NaN. -/
def Obligations.MulAndDivAreCorrectlyRounded : Prop :=
  ∀ (n : Arith) (a b : Sample),
    let f := n.format
    isFinite f a = true → isFinite f b = true →
      correctlyRounded f (fmul n a b) (sunits f a * sunits f b) f.unitsOne ∧
      fsign f (fmul n a b) = (fsign f a != fsign f b) ∧
      (sunits f b ≠ 0 →
        correctlyRounded f (fdiv n a b) (sunits f a * f.unitsOne * (sunits f b).sign) (sunits f b).natAbs ∧
        fsign f (fdiv n a b) = (fsign f a != fsign f b)) ∧
      (sunits f b = 0 → sunits f a ≠ 0 →
        isInf f (fdiv n a b) = true ∧ fsign f (fdiv n a b) = (fsign f a != fsign f b)) ∧
      (sunits f b = 0 → sunits f a = 0 → isNaN f (fdiv n a b) = true)

/-- spec/00_scope.md R11: `fround` of a finite value is the nearest integral one, with its sign; halfway cases go away from
zero with `ROUND_TIES = away` and to the even integer with `ROUND_TIES = even`; an infinity is returned as it is. -/
def Obligations.RoundTiesAwayIsNearestIntegral : Prop :=
  ∀ (n : Arith) (ties : RoundTies) (a : Sample),
    let f := n.format
    let one := f.unitsOne
    (isFinite f a = true →
      isFinite f (fround n ties a) = true ∧ fsign f (fround n ties a) = fsign f a ∧
      (∃ m : Nat, units f (fround n ties a) = m * one ∧
        2 * ((m * one : Nat) - (units f a : Int)).natAbs ≤ one ∧
        (2 * ((m * one : Nat) - (units f a : Int)).natAbs = one →
          match ties with
          | .away => units f a < m * one
          | .even => m % 2 = 0)) ∧
      (2 ^ f.fracBits * one ≤ units f a → fround n ties a = a)) ∧
    (isInf f a = true → fround n ties a = a)

/-- spec/00_scope.md R12: `fceil` is the least integral value not less than its argument, the sign of a zero result being the
argument's; an infinity is returned as it is. -/
def Obligations.CeilIsLeastIntegralNotBelow : Prop :=
  ∀ (n : Arith) (a : Sample),
    let f := n.format
    let one := f.unitsOne
    (isFinite f a = true →
      isFinite f (fceil n a) = true ∧ fsign f (fceil n a) = fsign f a ∧
      ∃ m : Int, sunits f (fceil n a) = m * one ∧ sunits f a ≤ m * one ∧ m * one < sunits f a + one) ∧
    (isInf f a = true → fceil n a = a)

/-- spec/00_scope.md R14: a NaN operand gives a NaN, and a NaN result is quiet (the top fraction bit is set), whatever the
draw. -/
def Obligations.NaNsPropagateAndAreQuiet : Prop :=
  ∀ (n : Arith) (ties : RoundTies) (a b : Sample),
    let f := n.format
    (isNaN f a = true ∨ isNaN f b = true →
      isNaN f (fadd n a b) = true ∧ isNaN f (fsub n a b) = true ∧ isNaN f (fmul n a b) = true ∧
        isNaN f (fdiv n a b) = true) ∧
    (isNaN f a = true → isNaN f (fround n ties a) = true ∧ isNaN f (fceil n a) = true) ∧
    (∀ r ∈ [fadd n a b, fsub n a b, fmul n a b, fdiv n a b, fround n ties a, fceil n a],
      isNaN f r = true → r.getLsbD (f.fracBits - 1) = true ∧ r.toNat < 2 ^ f.width)

/-- spec/00_scope.md R9: `flt` and `feq` are the order and equality of the values, both zeros equal, false on a NaN. -/
def Obligations.ComparisonsAreOfValues : Prop :=
  ∀ (f : SampleFormat) (a b : Sample),
    (isNaN f a = true ∨ isNaN f b = true → flt f a b = false ∧ feq f a b = false) ∧
    (isFinite f a = true → isFinite f b = true →
      (flt f a b = true ↔ sunits f a < sunits f b) ∧ (feq f a b = true ↔ sunits f a = sunits f b))
end

