-- ==== Sys2Proof/Laws/Float.lean ====
section
/-! SUPPORT. Small facts of the arithmetic primitives: the two formats, the fields of a packed pattern, NaN and infinity
tests, the constants of spec/00_scope.md R10 as the values nearest to their literals. -/

namespace Sys2Proof

/-! ## The two formats -/

theorem SampleFormat.signPlace_pos (f : SampleFormat) : 0 < f.signPlace := by cases f <;> simp [signPlace]

theorem SampleFormat.two_signPlace (f : SampleFormat) : 2 * f.signPlace = 2 ^ f.width := by
  cases f <;> simp [signPlace, width]

theorem SampleFormat.signPlace_le (f : SampleFormat) : f.signPlace ≤ 2 ^ 63 := by cases f <;> simp [signPlace]

theorem SampleFormat.infMag_lt (f : SampleFormat) : f.infMag < f.signPlace := by cases f <;> simp [signPlace, infMag]

/-- What is left above the infinite magnitude is room for the NaNs: one less than `2^fracBits` of them. -/
theorem SampleFormat.infMag_add (f : SampleFormat) : f.infMag + 2 ^ f.fracBits = f.signPlace := by
  cases f <;> simp [signPlace, infMag, fracBits]

theorem SampleFormat.unitsOne_pos (f : SampleFormat) : 0 < f.unitsOne := by
  unfold unitsOne; split <;> positivity

namespace Machine

/-! ## Fields of a packed pattern -/

theorem packFloat_toNat {f : SampleFormat} {neg : Bool} {m : Nat} (h : m < f.signPlace) :
    (packFloat f neg m).toNat = if neg then f.signPlace + m else m := by
  have := f.signPlace_le
  cases neg <;> simp [packFloat] <;> omega

/-- A packed pattern is a pattern of the format. -/
theorem packFloat_lt {f : SampleFormat} {neg : Bool} {m : Nat} (h : m < f.signPlace) :
    (packFloat f neg m).toNat < 2 ^ f.width := by
  rw [packFloat_toNat h, ← f.two_signPlace]; split <;> omega

theorem fmag_packFloat {f : SampleFormat} {neg : Bool} {m : Nat} (h : m < f.signPlace) :
    fmag f (packFloat f neg m) = m := by
  unfold fmag; rw [packFloat_toNat h]; cases neg <;> simp; omega

theorem fsign_packFloat {f : SampleFormat} {neg : Bool} {m : Nat} (h : m < f.signPlace) :
    fsign f (packFloat f neg m) = neg := by
  unfold fsign; rw [packFloat_toNat h]; cases neg <;> simp; omega

/-- A pattern is its sign and its magnitude. -/
theorem packFloat_fsign_fmag {f : SampleFormat} {a : Sample} : packFloat f (fsign f a) (fmag f a) = a := by
  apply BitVec.eq_of_toNat_eq
  have ha := a.isLt
  simp only [packFloat, fsign, fmag, BitVec.toNat_ofNat, decide_eq_true_eq]
  split <;> omega

/-! ## NaN, infinite, finite -/

theorem isNaN_packFloat {f : SampleFormat} {neg : Bool} {m : Nat} (h : m < f.signPlace) :
    isNaN f (packFloat f neg m) = decide (f.infMag < m) := by
  simp [isNaN, fmag_packFloat h]

/-- A finite value is neither a NaN nor infinite. -/
theorem isNaN_of_isFinite {f : SampleFormat} {a : Sample} (h : isFinite f a = true) : isNaN f a = false := by
  simp [isFinite, isNaN] at *; omega

theorem isInf_of_isFinite {f : SampleFormat} {a : Sample} (h : isFinite f a = true) : isInf f a = false := by
  simp [isFinite, isInf] at *; omega

/-- What is no NaN is a pattern of the format. -/
theorem lt_of_not_isNaN {f : SampleFormat} {a : Sample} (h : isNaN f a = false) : a.toNat < 2 ^ f.width := by
  have := f.infMag_lt
  rw [← f.two_signPlace]
  have hm := of_decide_eq_false h
  unfold fmag at hm
  split at hm <;> omega

/-- The magnitude pattern of a quiet NaN lies between the infinite one and the sign. -/
theorem quietMag_bounds (f : SampleFormat) (p : Nat) :
    f.infMag < f.infMag + 2 ^ (f.fracBits - 1) + p % 2 ^ (f.fracBits - 1) ∧
      f.infMag + 2 ^ (f.fracBits - 1) + p % 2 ^ (f.fracBits - 1) < f.signPlace := by
  cases f <;> simp only [SampleFormat.infMag, SampleFormat.fracBits, SampleFormat.signPlace] <;> omega

/-- A drawn NaN is a NaN, and a pattern of the format. -/
theorem isNaN_drawNaN (n : Arith) (op : FloatOp) (a b : Sample) : isNaN n.format (drawNaN n op a b) = true := by
  rw [drawNaN, quietNaN, isNaN_packFloat (quietMag_bounds _ _).2]
  exact decide_eq_true (quietMag_bounds _ _).1

theorem drawNaN_lt (n : Arith) (op : FloatOp) (a b : Sample) : (drawNaN n op a b).toNat < 2 ^ n.format.width :=
  packFloat_lt (quietMag_bounds _ _).2

/-! ## Rounding -/

/-- A rounded magnitude is at most the infinite one. -/
theorem roundMag_le (f : SampleFormat) (num den : Nat) : roundMag f num den ≤ f.infMag := Nat.min_le_right _ _

theorem roundMag_lt (f : SampleFormat) (num den : Nat) : roundMag f num den < f.signPlace :=
  Nat.lt_of_le_of_lt (roundMag_le f num den) f.infMag_lt

theorem roundMag_zero (f : SampleFormat) (den : Nat) : roundMag f 0 den = 0 := by
  simp [roundMag, roundEven, Nat.log2_zero]

/-- Rounding to an integer is off by at most half. -/
theorem roundEven_near (num : Nat) {den : Nat} (h : 0 < den) :
    2 * (roundEven num den * den) ≤ 2 * num + den ∧ 2 * num ≤ 2 * (roundEven num den * den) + den := by
  have hm := Nat.mod_lt num h
  have hd := Nat.div_add_mod num den
  unfold roundEven
  have e1 : (num / den + 1) * den = den * (num / den) + den := by ring
  have e2 : num / den * den = den * (num / den) := by ring
  simp only
  split_ifs <;> simp only [e1, e2] <;> omega

/-! ## Every primitive gives a pattern of the format -/

theorem addNonNaN_lt (n : Arith) (op : FloatOp) {a b : Sample} (ha : isNaN n.format a = false)
    (hb : isNaN n.format b = false) : (addNonNaN n op a b).toNat < 2 ^ n.format.width := by
  have h0 := n.format.signPlace_pos
  simp only [addNonNaN]
  split_ifs
  all_goals first
    | exact drawNaN_lt ..
    | exact lt_of_not_isNaN ha
    | exact lt_of_not_isNaN hb
    | exact packFloat_lt h0
    | exact packFloat_lt (roundMag_lt ..)

theorem isNaN_fneg {f : SampleFormat} {a : Sample} (h : isNaN f a = false) : isNaN f (fneg f a) = false := by
  have hm : fmag f a < f.signPlace := by
    have := f.infMag_lt
    simp only [isNaN, decide_eq_false_iff_not] at h; omega
  rw [fneg, isNaN_packFloat hm]; exact h

/-- The absolute value of a NaN of the format is a NaN. -/
theorem isNaN_fabs {f : SampleFormat} {a : Sample} (ha : a.toNat < 2 ^ f.width) (h : isNaN f a = true) :
    isNaN f (fabs f a) = true := by
  have hm : fmag f a < f.signPlace := by
    have := f.two_signPlace
    unfold fmag; split <;> omega
  rw [fabs, isNaN_packFloat hm]; exact h

theorem fadd_lt (n : Arith) (a b : Sample) : (fadd n a b).toNat < 2 ^ n.format.width := by
  unfold fadd
  split_ifs with h
  · exact drawNaN_lt ..
  · simp only [Bool.or_eq_true, not_or, Bool.not_eq_true] at h; exact addNonNaN_lt n _ h.1 h.2

theorem fsub_lt (n : Arith) (a b : Sample) : (fsub n a b).toNat < 2 ^ n.format.width := by
  unfold fsub
  split_ifs with h
  · exact drawNaN_lt ..
  · simp only [Bool.or_eq_true, not_or, Bool.not_eq_true] at h; exact addNonNaN_lt n _ h.1 (isNaN_fneg h.2)

theorem fmul_lt (n : Arith) (a b : Sample) : (fmul n a b).toNat < 2 ^ n.format.width := by
  simp only [fmul]
  split_ifs
  all_goals first
    | exact drawNaN_lt ..
    | exact packFloat_lt n.format.infMag_lt
    | exact packFloat_lt (roundMag_lt ..)

theorem fdiv_lt (n : Arith) (a b : Sample) : (fdiv n a b).toNat < 2 ^ n.format.width := by
  simp only [fdiv]
  split_ifs
  all_goals first
    | exact drawNaN_lt ..
    | exact packFloat_lt n.format.infMag_lt
    | exact packFloat_lt n.format.signPlace_pos
    | exact packFloat_lt (roundMag_lt ..)

theorem fround_lt (n : Arith) (ties : RoundTies) (a : Sample) : (fround n ties a).toNat < 2 ^ n.format.width := by
  simp only [fround]
  split_ifs with h
  · exact drawNaN_lt ..
  · exact lt_of_not_isNaN (by simpa using h)
  · exact packFloat_lt (roundMag_lt ..)

/-! ## The constants of spec/00_scope.md R10, in both formats -/

theorem k0_299_nearest : ∀ f, ofRat f 299 1000 = k0_299 f := by intro f; cases f <;> decide +kernel
theorem k0_587_nearest : ∀ f, ofRat f 587 1000 = k0_587 f := by intro f; cases f <;> decide +kernel
theorem k0_113_nearest : ∀ f, ofRat f 113 1000 = k0_113 f := by intro f; cases f <;> decide +kernel
theorem k0_168736_nearest : ∀ f, ofRat f 168736 1000000 = k0_168736 f := by intro f; cases f <;> decide +kernel
theorem k0_331264_nearest : ∀ f, ofRat f 331264 1000000 = k0_331264 f := by intro f; cases f <;> decide +kernel
theorem k0_418688_nearest : ∀ f, ofRat f 418688 1000000 = k0_418688 f := by intro f; cases f <;> decide +kernel
theorem k0_081312_nearest : ∀ f, ofRat f 81312 1000000 = k0_081312 f := by intro f; cases f <;> decide +kernel
theorem k0_5_nearest : ∀ f, ofRat f 1 2 = k0_5 f := by intro f; cases f <;> decide +kernel
theorem k0_25_nearest : ∀ f, ofRat f 1 4 = k0_25 f := by intro f; cases f <;> decide +kernel
theorem k128_nearest : ∀ f, ofRat f 128 1 = k128 f := by intro f; cases f <;> decide +kernel

end Machine

end Sys2Proof
end

