-- ==== Sys2Proof/Laws/State.lean ====
section
/-! SUPPORT. One lemma for each field of State after each named update, so that no proof unfolds a record update. -/

namespace Sys2Proof.Machine

open Sys2Proof

/-! ## setPlane -/

@[simp] theorem State.setPlane_fault (s : State) (i : Nat) (p : Plane) : (s.setPlane i p).fault = s.fault := rfl
@[simp] theorem State.setPlane_havePrev (s : State) (i : Nat) (p : Plane) : (s.setPlane i p).havePrev = s.havePrev := rfl
@[simp] theorem State.setPlane_ftype (s : State) (i : Nat) (p : Plane) : (s.setPlane i p).ftype = s.ftype := rfl
@[simp] theorem State.setPlane_err (s : State) (i : Nat) (p : Plane) : (s.setPlane i p).err = s.err := rfl
@[simp] theorem State.setPlane_width (s : State) (i : Nat) (p : Plane) : (s.setPlane i p).width = s.width := rfl
@[simp] theorem State.setPlane_height (s : State) (i : Nat) (p : Plane) : (s.setPlane i p).height = s.height := rfl
@[simp] theorem State.setPlane_quality (s : State) (i : Nat) (p : Plane) : (s.setPlane i p).quality = s.quality := rfl
@[simp] theorem State.setPlane_ifreq (s : State) (i : Nat) (p : Plane) : (s.setPlane i p).ifreq = s.ifreq := rfl
@[simp] theorem State.setPlane_frameIdx (s : State) (i : Nat) (p : Plane) : (s.setPlane i p).frameIdx = s.frameIdx := rfl
@[simp] theorem State.setPlane_cmdCount (s : State) (i : Nat) (p : Plane) : (s.setPlane i p).cmdCount = s.cmdCount := rfl
@[simp] theorem State.setPlane_fcmd (s : State) (i : Nat) (p : Plane) : (s.setPlane i p).fcmd = s.fcmd := rfl
@[simp] theorem State.setPlane_psel (s : State) (i : Nat) (p : Plane) : (s.setPlane i p).psel = s.psel := rfl
@[simp] theorem State.setPlane_paddr (s : State) (i : Nat) (p : Plane) : (s.setPlane i p).paddr = s.paddr := rfl
@[simp] theorem State.setPlane_mvaddr (s : State) (i : Nat) (p : Plane) : (s.setPlane i p).mvaddr = s.mvaddr := rfl
@[simp] theorem State.setPlane_tksel (s : State) (i : Nat) (p : Plane) : (s.setPlane i p).tksel = s.tksel := rfl
@[simp] theorem State.setPlane_tkaddr (s : State) (i : Nat) (p : Plane) : (s.setPlane i p).tkaddr = s.tkaddr := rfl
@[simp] theorem State.setPlane_mvb (s : State) (i : Nat) (p : Plane) : (s.setPlane i p).mvb = s.mvb := rfl
@[simp] theorem State.setPlane_tokens (s : State) (i : Nat) (p : Plane) : (s.setPlane i p).tokens = s.tokens := rfl
@[simp] theorem State.setPlane_params (s : State) (i : Nat) (p : Plane) : (s.setPlane i p).params = s.params := rfl
@[simp] theorem State.setPlane_host (s : State) (i : Nat) (p : Plane) : (s.setPlane i p).host = s.host := rfl
@[simp] theorem State.setPlane_reply (s : State) (i : Nat) (p : Plane) : (s.setPlane i p).reply = s.reply := rfl
@[simp] theorem State.setPlane_draws (s : State) (i : Nat) (p : Plane) : (s.setPlane i p).draws = s.draws := rfl
@[simp] theorem State.setPlane_token (s : State) (i : Nat) (p : Plane) (k : Nat) : (s.setPlane i p).token k = s.token k := rfl

/-! ## setTriple -/

@[simp] theorem State.setTriple_fault (s : State) (i : Nat) (p q r : Plane) : (s.setTriple i p q r).fault = s.fault := rfl
@[simp] theorem State.setTriple_havePrev (s : State) (i : Nat) (p q r : Plane) : (s.setTriple i p q r).havePrev = s.havePrev := rfl
@[simp] theorem State.setTriple_ftype (s : State) (i : Nat) (p q r : Plane) : (s.setTriple i p q r).ftype = s.ftype := rfl
@[simp] theorem State.setTriple_err (s : State) (i : Nat) (p q r : Plane) : (s.setTriple i p q r).err = s.err := rfl
@[simp] theorem State.setTriple_width (s : State) (i : Nat) (p q r : Plane) : (s.setTriple i p q r).width = s.width := rfl
@[simp] theorem State.setTriple_height (s : State) (i : Nat) (p q r : Plane) : (s.setTriple i p q r).height = s.height := rfl
@[simp] theorem State.setTriple_quality (s : State) (i : Nat) (p q r : Plane) : (s.setTriple i p q r).quality = s.quality := rfl
@[simp] theorem State.setTriple_ifreq (s : State) (i : Nat) (p q r : Plane) : (s.setTriple i p q r).ifreq = s.ifreq := rfl
@[simp] theorem State.setTriple_frameIdx (s : State) (i : Nat) (p q r : Plane) : (s.setTriple i p q r).frameIdx = s.frameIdx := rfl
@[simp] theorem State.setTriple_cmdCount (s : State) (i : Nat) (p q r : Plane) : (s.setTriple i p q r).cmdCount = s.cmdCount := rfl
@[simp] theorem State.setTriple_fcmd (s : State) (i : Nat) (p q r : Plane) : (s.setTriple i p q r).fcmd = s.fcmd := rfl
@[simp] theorem State.setTriple_psel (s : State) (i : Nat) (p q r : Plane) : (s.setTriple i p q r).psel = s.psel := rfl
@[simp] theorem State.setTriple_paddr (s : State) (i : Nat) (p q r : Plane) : (s.setTriple i p q r).paddr = s.paddr := rfl
@[simp] theorem State.setTriple_mvaddr (s : State) (i : Nat) (p q r : Plane) : (s.setTriple i p q r).mvaddr = s.mvaddr := rfl
@[simp] theorem State.setTriple_tksel (s : State) (i : Nat) (p q r : Plane) : (s.setTriple i p q r).tksel = s.tksel := rfl
@[simp] theorem State.setTriple_tkaddr (s : State) (i : Nat) (p q r : Plane) : (s.setTriple i p q r).tkaddr = s.tkaddr := rfl
@[simp] theorem State.setTriple_mvb (s : State) (i : Nat) (p q r : Plane) : (s.setTriple i p q r).mvb = s.mvb := rfl
@[simp] theorem State.setTriple_tokens (s : State) (i : Nat) (p q r : Plane) : (s.setTriple i p q r).tokens = s.tokens := rfl
@[simp] theorem State.setTriple_params (s : State) (i : Nat) (p q r : Plane) : (s.setTriple i p q r).params = s.params := rfl
@[simp] theorem State.setTriple_host (s : State) (i : Nat) (p q r : Plane) : (s.setTriple i p q r).host = s.host := rfl
@[simp] theorem State.setTriple_reply (s : State) (i : Nat) (p q r : Plane) : (s.setTriple i p q r).reply = s.reply := rfl
@[simp] theorem State.setTriple_draws (s : State) (i : Nat) (p q r : Plane) : (s.setTriple i p q r).draws = s.draws := rfl
@[simp] theorem State.setTriple_token (s : State) (i : Nat) (p q r : Plane) (k : Nat) : (s.setTriple i p q r).token k = s.token k := rfl

/-! ## setToken -/

@[simp] theorem State.setToken_fault (s : State) (t : Nat) (b : TokenBuf) : (s.setToken t b).fault = s.fault := rfl
@[simp] theorem State.setToken_havePrev (s : State) (t : Nat) (b : TokenBuf) : (s.setToken t b).havePrev = s.havePrev := rfl
@[simp] theorem State.setToken_ftype (s : State) (t : Nat) (b : TokenBuf) : (s.setToken t b).ftype = s.ftype := rfl
@[simp] theorem State.setToken_err (s : State) (t : Nat) (b : TokenBuf) : (s.setToken t b).err = s.err := rfl
@[simp] theorem State.setToken_width (s : State) (t : Nat) (b : TokenBuf) : (s.setToken t b).width = s.width := rfl
@[simp] theorem State.setToken_height (s : State) (t : Nat) (b : TokenBuf) : (s.setToken t b).height = s.height := rfl
@[simp] theorem State.setToken_quality (s : State) (t : Nat) (b : TokenBuf) : (s.setToken t b).quality = s.quality := rfl
@[simp] theorem State.setToken_ifreq (s : State) (t : Nat) (b : TokenBuf) : (s.setToken t b).ifreq = s.ifreq := rfl
@[simp] theorem State.setToken_frameIdx (s : State) (t : Nat) (b : TokenBuf) : (s.setToken t b).frameIdx = s.frameIdx := rfl
@[simp] theorem State.setToken_cmdCount (s : State) (t : Nat) (b : TokenBuf) : (s.setToken t b).cmdCount = s.cmdCount := rfl
@[simp] theorem State.setToken_fcmd (s : State) (t : Nat) (b : TokenBuf) : (s.setToken t b).fcmd = s.fcmd := rfl
@[simp] theorem State.setToken_psel (s : State) (t : Nat) (b : TokenBuf) : (s.setToken t b).psel = s.psel := rfl
@[simp] theorem State.setToken_paddr (s : State) (t : Nat) (b : TokenBuf) : (s.setToken t b).paddr = s.paddr := rfl
@[simp] theorem State.setToken_mvaddr (s : State) (t : Nat) (b : TokenBuf) : (s.setToken t b).mvaddr = s.mvaddr := rfl
@[simp] theorem State.setToken_tksel (s : State) (t : Nat) (b : TokenBuf) : (s.setToken t b).tksel = s.tksel := rfl
@[simp] theorem State.setToken_tkaddr (s : State) (t : Nat) (b : TokenBuf) : (s.setToken t b).tkaddr = s.tkaddr := rfl
@[simp] theorem State.setToken_planes (s : State) (t : Nat) (b : TokenBuf) : (s.setToken t b).planes = s.planes := rfl
@[simp] theorem State.setToken_mvb (s : State) (t : Nat) (b : TokenBuf) : (s.setToken t b).mvb = s.mvb := rfl
@[simp] theorem State.setToken_params (s : State) (t : Nat) (b : TokenBuf) : (s.setToken t b).params = s.params := rfl
@[simp] theorem State.setToken_host (s : State) (t : Nat) (b : TokenBuf) : (s.setToken t b).host = s.host := rfl
@[simp] theorem State.setToken_reply (s : State) (t : Nat) (b : TokenBuf) : (s.setToken t b).reply = s.reply := rfl
@[simp] theorem State.setToken_draws (s : State) (t : Nat) (b : TokenBuf) : (s.setToken t b).draws = s.draws := rfl
@[simp] theorem State.setToken_plane (s : State) (t : Nat) (b : TokenBuf) (k : Nat) : (s.setToken t b).plane k = s.plane k := rfl

/-! ## invalidateToken -/

@[simp] theorem State.invalidateToken_fault (s : State) (t : Nat) : (s.invalidateToken t).fault = s.fault := rfl
@[simp] theorem State.invalidateToken_havePrev (s : State) (t : Nat) : (s.invalidateToken t).havePrev = s.havePrev := rfl
@[simp] theorem State.invalidateToken_ftype (s : State) (t : Nat) : (s.invalidateToken t).ftype = s.ftype := rfl
@[simp] theorem State.invalidateToken_err (s : State) (t : Nat) : (s.invalidateToken t).err = s.err := rfl
@[simp] theorem State.invalidateToken_width (s : State) (t : Nat) : (s.invalidateToken t).width = s.width := rfl
@[simp] theorem State.invalidateToken_height (s : State) (t : Nat) : (s.invalidateToken t).height = s.height := rfl
@[simp] theorem State.invalidateToken_quality (s : State) (t : Nat) : (s.invalidateToken t).quality = s.quality := rfl
@[simp] theorem State.invalidateToken_ifreq (s : State) (t : Nat) : (s.invalidateToken t).ifreq = s.ifreq := rfl
@[simp] theorem State.invalidateToken_frameIdx (s : State) (t : Nat) : (s.invalidateToken t).frameIdx = s.frameIdx := rfl
@[simp] theorem State.invalidateToken_cmdCount (s : State) (t : Nat) : (s.invalidateToken t).cmdCount = s.cmdCount := rfl
@[simp] theorem State.invalidateToken_fcmd (s : State) (t : Nat) : (s.invalidateToken t).fcmd = s.fcmd := rfl
@[simp] theorem State.invalidateToken_psel (s : State) (t : Nat) : (s.invalidateToken t).psel = s.psel := rfl
@[simp] theorem State.invalidateToken_paddr (s : State) (t : Nat) : (s.invalidateToken t).paddr = s.paddr := rfl
@[simp] theorem State.invalidateToken_mvaddr (s : State) (t : Nat) : (s.invalidateToken t).mvaddr = s.mvaddr := rfl
@[simp] theorem State.invalidateToken_tksel (s : State) (t : Nat) : (s.invalidateToken t).tksel = s.tksel := rfl
@[simp] theorem State.invalidateToken_tkaddr (s : State) (t : Nat) : (s.invalidateToken t).tkaddr = s.tkaddr := rfl
@[simp] theorem State.invalidateToken_planes (s : State) (t : Nat) : (s.invalidateToken t).planes = s.planes := rfl
@[simp] theorem State.invalidateToken_mvb (s : State) (t : Nat) : (s.invalidateToken t).mvb = s.mvb := rfl
@[simp] theorem State.invalidateToken_params (s : State) (t : Nat) : (s.invalidateToken t).params = s.params := rfl
@[simp] theorem State.invalidateToken_host (s : State) (t : Nat) : (s.invalidateToken t).host = s.host := rfl
@[simp] theorem State.invalidateToken_reply (s : State) (t : Nat) : (s.invalidateToken t).reply = s.reply := rfl
@[simp] theorem State.invalidateToken_draws (s : State) (t : Nat) : (s.invalidateToken t).draws = s.draws := rfl
@[simp] theorem State.invalidateToken_plane (s : State) (t : Nat) (k : Nat) : (s.invalidateToken t).plane k = s.plane k := rfl

/-! ## setMvb -/

@[simp] theorem State.setMvb_fault (s : State) (b : MvBuffer) : (s.setMvb b).fault = s.fault := rfl
@[simp] theorem State.setMvb_havePrev (s : State) (b : MvBuffer) : (s.setMvb b).havePrev = s.havePrev := rfl
@[simp] theorem State.setMvb_ftype (s : State) (b : MvBuffer) : (s.setMvb b).ftype = s.ftype := rfl
@[simp] theorem State.setMvb_err (s : State) (b : MvBuffer) : (s.setMvb b).err = s.err := rfl
@[simp] theorem State.setMvb_width (s : State) (b : MvBuffer) : (s.setMvb b).width = s.width := rfl
@[simp] theorem State.setMvb_height (s : State) (b : MvBuffer) : (s.setMvb b).height = s.height := rfl
@[simp] theorem State.setMvb_quality (s : State) (b : MvBuffer) : (s.setMvb b).quality = s.quality := rfl
@[simp] theorem State.setMvb_ifreq (s : State) (b : MvBuffer) : (s.setMvb b).ifreq = s.ifreq := rfl
@[simp] theorem State.setMvb_frameIdx (s : State) (b : MvBuffer) : (s.setMvb b).frameIdx = s.frameIdx := rfl
@[simp] theorem State.setMvb_cmdCount (s : State) (b : MvBuffer) : (s.setMvb b).cmdCount = s.cmdCount := rfl
@[simp] theorem State.setMvb_fcmd (s : State) (b : MvBuffer) : (s.setMvb b).fcmd = s.fcmd := rfl
@[simp] theorem State.setMvb_psel (s : State) (b : MvBuffer) : (s.setMvb b).psel = s.psel := rfl
@[simp] theorem State.setMvb_paddr (s : State) (b : MvBuffer) : (s.setMvb b).paddr = s.paddr := rfl
@[simp] theorem State.setMvb_mvaddr (s : State) (b : MvBuffer) : (s.setMvb b).mvaddr = s.mvaddr := rfl
@[simp] theorem State.setMvb_tksel (s : State) (b : MvBuffer) : (s.setMvb b).tksel = s.tksel := rfl
@[simp] theorem State.setMvb_tkaddr (s : State) (b : MvBuffer) : (s.setMvb b).tkaddr = s.tkaddr := rfl
@[simp] theorem State.setMvb_planes (s : State) (b : MvBuffer) : (s.setMvb b).planes = s.planes := rfl
@[simp] theorem State.setMvb_mvb (s : State) (b : MvBuffer) : (s.setMvb b).mvb = b := rfl
@[simp] theorem State.setMvb_tokens (s : State) (b : MvBuffer) : (s.setMvb b).tokens = s.tokens := rfl
@[simp] theorem State.setMvb_params (s : State) (b : MvBuffer) : (s.setMvb b).params = s.params := rfl
@[simp] theorem State.setMvb_host (s : State) (b : MvBuffer) : (s.setMvb b).host = s.host := rfl
@[simp] theorem State.setMvb_reply (s : State) (b : MvBuffer) : (s.setMvb b).reply = s.reply := rfl
@[simp] theorem State.setMvb_draws (s : State) (b : MvBuffer) : (s.setMvb b).draws = s.draws := rfl
@[simp] theorem State.setMvb_plane (s : State) (b : MvBuffer) (k : Nat) : (s.setMvb b).plane k = s.plane k := rfl
@[simp] theorem State.setMvb_token (s : State) (b : MvBuffer) (k : Nat) : (s.setMvb b).token k = s.token k := rfl

/-! ## invalidateMvb -/

@[simp] theorem State.invalidateMvb_fault (s : State) : (s.invalidateMvb).fault = s.fault := rfl
@[simp] theorem State.invalidateMvb_havePrev (s : State) : (s.invalidateMvb).havePrev = s.havePrev := rfl
@[simp] theorem State.invalidateMvb_ftype (s : State) : (s.invalidateMvb).ftype = s.ftype := rfl
@[simp] theorem State.invalidateMvb_err (s : State) : (s.invalidateMvb).err = s.err := rfl
@[simp] theorem State.invalidateMvb_width (s : State) : (s.invalidateMvb).width = s.width := rfl
@[simp] theorem State.invalidateMvb_height (s : State) : (s.invalidateMvb).height = s.height := rfl
@[simp] theorem State.invalidateMvb_quality (s : State) : (s.invalidateMvb).quality = s.quality := rfl
@[simp] theorem State.invalidateMvb_ifreq (s : State) : (s.invalidateMvb).ifreq = s.ifreq := rfl
@[simp] theorem State.invalidateMvb_frameIdx (s : State) : (s.invalidateMvb).frameIdx = s.frameIdx := rfl
@[simp] theorem State.invalidateMvb_cmdCount (s : State) : (s.invalidateMvb).cmdCount = s.cmdCount := rfl
@[simp] theorem State.invalidateMvb_fcmd (s : State) : (s.invalidateMvb).fcmd = s.fcmd := rfl
@[simp] theorem State.invalidateMvb_psel (s : State) : (s.invalidateMvb).psel = s.psel := rfl
@[simp] theorem State.invalidateMvb_paddr (s : State) : (s.invalidateMvb).paddr = s.paddr := rfl
@[simp] theorem State.invalidateMvb_mvaddr (s : State) : (s.invalidateMvb).mvaddr = s.mvaddr := rfl
@[simp] theorem State.invalidateMvb_tksel (s : State) : (s.invalidateMvb).tksel = s.tksel := rfl
@[simp] theorem State.invalidateMvb_tkaddr (s : State) : (s.invalidateMvb).tkaddr = s.tkaddr := rfl
@[simp] theorem State.invalidateMvb_planes (s : State) : (s.invalidateMvb).planes = s.planes := rfl
@[simp] theorem State.invalidateMvb_mvb (s : State) : (s.invalidateMvb).mvb = { s.mvb with valid := false } := rfl
@[simp] theorem State.invalidateMvb_tokens (s : State) : (s.invalidateMvb).tokens = s.tokens := rfl
@[simp] theorem State.invalidateMvb_params (s : State) : (s.invalidateMvb).params = s.params := rfl
@[simp] theorem State.invalidateMvb_host (s : State) : (s.invalidateMvb).host = s.host := rfl
@[simp] theorem State.invalidateMvb_reply (s : State) : (s.invalidateMvb).reply = s.reply := rfl
@[simp] theorem State.invalidateMvb_draws (s : State) : (s.invalidateMvb).draws = s.draws := rfl
@[simp] theorem State.invalidateMvb_plane (s : State) (k : Nat) : (s.invalidateMvb).plane k = s.plane k := rfl
@[simp] theorem State.invalidateMvb_token (s : State) (k : Nat) : (s.invalidateMvb).token k = s.token k := rfl

/-! ## nextDraw -/

@[simp] theorem State.nextDraw_fault (s : State) : (s.nextDraw).fault = s.fault := rfl
@[simp] theorem State.nextDraw_havePrev (s : State) : (s.nextDraw).havePrev = s.havePrev := rfl
@[simp] theorem State.nextDraw_ftype (s : State) : (s.nextDraw).ftype = s.ftype := rfl
@[simp] theorem State.nextDraw_err (s : State) : (s.nextDraw).err = s.err := rfl
@[simp] theorem State.nextDraw_width (s : State) : (s.nextDraw).width = s.width := rfl
@[simp] theorem State.nextDraw_height (s : State) : (s.nextDraw).height = s.height := rfl
@[simp] theorem State.nextDraw_quality (s : State) : (s.nextDraw).quality = s.quality := rfl
@[simp] theorem State.nextDraw_ifreq (s : State) : (s.nextDraw).ifreq = s.ifreq := rfl
@[simp] theorem State.nextDraw_frameIdx (s : State) : (s.nextDraw).frameIdx = s.frameIdx := rfl
@[simp] theorem State.nextDraw_cmdCount (s : State) : (s.nextDraw).cmdCount = s.cmdCount := rfl
@[simp] theorem State.nextDraw_fcmd (s : State) : (s.nextDraw).fcmd = s.fcmd := rfl
@[simp] theorem State.nextDraw_psel (s : State) : (s.nextDraw).psel = s.psel := rfl
@[simp] theorem State.nextDraw_paddr (s : State) : (s.nextDraw).paddr = s.paddr := rfl
@[simp] theorem State.nextDraw_mvaddr (s : State) : (s.nextDraw).mvaddr = s.mvaddr := rfl
@[simp] theorem State.nextDraw_tksel (s : State) : (s.nextDraw).tksel = s.tksel := rfl
@[simp] theorem State.nextDraw_tkaddr (s : State) : (s.nextDraw).tkaddr = s.tkaddr := rfl
@[simp] theorem State.nextDraw_planes (s : State) : (s.nextDraw).planes = s.planes := rfl
@[simp] theorem State.nextDraw_mvb (s : State) : (s.nextDraw).mvb = s.mvb := rfl
@[simp] theorem State.nextDraw_tokens (s : State) : (s.nextDraw).tokens = s.tokens := rfl
@[simp] theorem State.nextDraw_params (s : State) : (s.nextDraw).params = s.params := rfl
@[simp] theorem State.nextDraw_host (s : State) : (s.nextDraw).host = s.host := rfl
@[simp] theorem State.nextDraw_reply (s : State) : (s.nextDraw).reply = s.reply := rfl
@[simp] theorem State.nextDraw_draws (s : State) : (s.nextDraw).draws = s.draws + 1 := rfl
@[simp] theorem State.nextDraw_plane (s : State) (k : Nat) : (s.nextDraw).plane k = s.plane k := rfl
@[simp] theorem State.nextDraw_token (s : State) (k : Nat) : (s.nextDraw).token k = s.token k := rfl

/-! ## raiseFault -/

@[simp] theorem State.raiseFault_fault (s : State) (code : FaultCode) (c : Word) : (s.raiseFault code c).fault = true := rfl
@[simp] theorem State.raiseFault_havePrev (s : State) (code : FaultCode) (c : Word) : (s.raiseFault code c).havePrev = s.havePrev := rfl
@[simp] theorem State.raiseFault_ftype (s : State) (code : FaultCode) (c : Word) : (s.raiseFault code c).ftype = s.ftype := rfl
@[simp] theorem State.raiseFault_err (s : State) (code : FaultCode) (c : Word) : (s.raiseFault code c).err = code := rfl
@[simp] theorem State.raiseFault_width (s : State) (code : FaultCode) (c : Word) : (s.raiseFault code c).width = s.width := rfl
@[simp] theorem State.raiseFault_height (s : State) (code : FaultCode) (c : Word) : (s.raiseFault code c).height = s.height := rfl
@[simp] theorem State.raiseFault_quality (s : State) (code : FaultCode) (c : Word) : (s.raiseFault code c).quality = s.quality := rfl
@[simp] theorem State.raiseFault_ifreq (s : State) (code : FaultCode) (c : Word) : (s.raiseFault code c).ifreq = s.ifreq := rfl
@[simp] theorem State.raiseFault_frameIdx (s : State) (code : FaultCode) (c : Word) : (s.raiseFault code c).frameIdx = s.frameIdx := rfl
@[simp] theorem State.raiseFault_cmdCount (s : State) (code : FaultCode) (c : Word) : (s.raiseFault code c).cmdCount = s.cmdCount := rfl
@[simp] theorem State.raiseFault_fcmd (s : State) (code : FaultCode) (c : Word) : (s.raiseFault code c).fcmd = c := rfl
@[simp] theorem State.raiseFault_psel (s : State) (code : FaultCode) (c : Word) : (s.raiseFault code c).psel = s.psel := rfl
@[simp] theorem State.raiseFault_paddr (s : State) (code : FaultCode) (c : Word) : (s.raiseFault code c).paddr = s.paddr := rfl
@[simp] theorem State.raiseFault_mvaddr (s : State) (code : FaultCode) (c : Word) : (s.raiseFault code c).mvaddr = s.mvaddr := rfl
@[simp] theorem State.raiseFault_tksel (s : State) (code : FaultCode) (c : Word) : (s.raiseFault code c).tksel = s.tksel := rfl
@[simp] theorem State.raiseFault_tkaddr (s : State) (code : FaultCode) (c : Word) : (s.raiseFault code c).tkaddr = s.tkaddr := rfl
@[simp] theorem State.raiseFault_planes (s : State) (code : FaultCode) (c : Word) : (s.raiseFault code c).planes = s.planes := rfl
@[simp] theorem State.raiseFault_mvb (s : State) (code : FaultCode) (c : Word) : (s.raiseFault code c).mvb = s.mvb := rfl
@[simp] theorem State.raiseFault_tokens (s : State) (code : FaultCode) (c : Word) : (s.raiseFault code c).tokens = s.tokens := rfl
@[simp] theorem State.raiseFault_params (s : State) (code : FaultCode) (c : Word) : (s.raiseFault code c).params = s.params := rfl
@[simp] theorem State.raiseFault_host (s : State) (code : FaultCode) (c : Word) : (s.raiseFault code c).host = s.host := rfl
@[simp] theorem State.raiseFault_reply (s : State) (code : FaultCode) (c : Word) : (s.raiseFault code c).reply = s.reply := rfl
@[simp] theorem State.raiseFault_draws (s : State) (code : FaultCode) (c : Word) : (s.raiseFault code c).draws = s.draws := rfl
@[simp] theorem State.raiseFault_plane (s : State) (code : FaultCode) (c : Word) (k : Nat) : (s.raiseFault code c).plane k = s.plane k := rfl
@[simp] theorem State.raiseFault_token (s : State) (code : FaultCode) (c : Word) (k : Nat) : (s.raiseFault code c).token k = s.token k := rfl

/-! ## countCommand -/

@[simp] theorem State.countCommand_fault (s : State) : (s.countCommand).fault = s.fault := rfl
@[simp] theorem State.countCommand_havePrev (s : State) : (s.countCommand).havePrev = s.havePrev := rfl
@[simp] theorem State.countCommand_ftype (s : State) : (s.countCommand).ftype = s.ftype := rfl
@[simp] theorem State.countCommand_err (s : State) : (s.countCommand).err = s.err := rfl
@[simp] theorem State.countCommand_width (s : State) : (s.countCommand).width = s.width := rfl
@[simp] theorem State.countCommand_height (s : State) : (s.countCommand).height = s.height := rfl
@[simp] theorem State.countCommand_quality (s : State) : (s.countCommand).quality = s.quality := rfl
@[simp] theorem State.countCommand_ifreq (s : State) : (s.countCommand).ifreq = s.ifreq := rfl
@[simp] theorem State.countCommand_frameIdx (s : State) : (s.countCommand).frameIdx = s.frameIdx := rfl
@[simp] theorem State.countCommand_cmdCount (s : State) : (s.countCommand).cmdCount = s.cmdCount + 1 := rfl
@[simp] theorem State.countCommand_fcmd (s : State) : (s.countCommand).fcmd = s.fcmd := rfl
@[simp] theorem State.countCommand_psel (s : State) : (s.countCommand).psel = s.psel := rfl
@[simp] theorem State.countCommand_paddr (s : State) : (s.countCommand).paddr = s.paddr := rfl
@[simp] theorem State.countCommand_mvaddr (s : State) : (s.countCommand).mvaddr = s.mvaddr := rfl
@[simp] theorem State.countCommand_tksel (s : State) : (s.countCommand).tksel = s.tksel := rfl
@[simp] theorem State.countCommand_tkaddr (s : State) : (s.countCommand).tkaddr = s.tkaddr := rfl
@[simp] theorem State.countCommand_planes (s : State) : (s.countCommand).planes = s.planes := rfl
@[simp] theorem State.countCommand_mvb (s : State) : (s.countCommand).mvb = s.mvb := rfl
@[simp] theorem State.countCommand_tokens (s : State) : (s.countCommand).tokens = s.tokens := rfl
@[simp] theorem State.countCommand_params (s : State) : (s.countCommand).params = s.params := rfl
@[simp] theorem State.countCommand_host (s : State) : (s.countCommand).host = s.host := rfl
@[simp] theorem State.countCommand_reply (s : State) : (s.countCommand).reply = s.reply := rfl
@[simp] theorem State.countCommand_draws (s : State) : (s.countCommand).draws = s.draws := rfl
@[simp] theorem State.countCommand_plane (s : State) (k : Nat) : (s.countCommand).plane k = s.plane k := rfl
@[simp] theorem State.countCommand_token (s : State) (k : Nat) : (s.countCommand).token k = s.token k := rfl

/-! ## answer -/

@[simp] theorem State.answer_fault (s : State) (r : BusReply) : (s.answer r).fault = s.fault := rfl
@[simp] theorem State.answer_havePrev (s : State) (r : BusReply) : (s.answer r).havePrev = s.havePrev := rfl
@[simp] theorem State.answer_ftype (s : State) (r : BusReply) : (s.answer r).ftype = s.ftype := rfl
@[simp] theorem State.answer_err (s : State) (r : BusReply) : (s.answer r).err = s.err := rfl
@[simp] theorem State.answer_width (s : State) (r : BusReply) : (s.answer r).width = s.width := rfl
@[simp] theorem State.answer_height (s : State) (r : BusReply) : (s.answer r).height = s.height := rfl
@[simp] theorem State.answer_quality (s : State) (r : BusReply) : (s.answer r).quality = s.quality := rfl
@[simp] theorem State.answer_ifreq (s : State) (r : BusReply) : (s.answer r).ifreq = s.ifreq := rfl
@[simp] theorem State.answer_frameIdx (s : State) (r : BusReply) : (s.answer r).frameIdx = s.frameIdx := rfl
@[simp] theorem State.answer_cmdCount (s : State) (r : BusReply) : (s.answer r).cmdCount = s.cmdCount := rfl
@[simp] theorem State.answer_fcmd (s : State) (r : BusReply) : (s.answer r).fcmd = s.fcmd := rfl
@[simp] theorem State.answer_psel (s : State) (r : BusReply) : (s.answer r).psel = s.psel := rfl
@[simp] theorem State.answer_paddr (s : State) (r : BusReply) : (s.answer r).paddr = s.paddr := rfl
@[simp] theorem State.answer_mvaddr (s : State) (r : BusReply) : (s.answer r).mvaddr = s.mvaddr := rfl
@[simp] theorem State.answer_tksel (s : State) (r : BusReply) : (s.answer r).tksel = s.tksel := rfl
@[simp] theorem State.answer_tkaddr (s : State) (r : BusReply) : (s.answer r).tkaddr = s.tkaddr := rfl
@[simp] theorem State.answer_planes (s : State) (r : BusReply) : (s.answer r).planes = s.planes := rfl
@[simp] theorem State.answer_mvb (s : State) (r : BusReply) : (s.answer r).mvb = s.mvb := rfl
@[simp] theorem State.answer_tokens (s : State) (r : BusReply) : (s.answer r).tokens = s.tokens := rfl
@[simp] theorem State.answer_params (s : State) (r : BusReply) : (s.answer r).params = s.params := rfl
@[simp] theorem State.answer_host (s : State) (r : BusReply) : (s.answer r).host = s.host := rfl
@[simp] theorem State.answer_reply (s : State) (r : BusReply) : (s.answer r).reply = r := rfl
@[simp] theorem State.answer_draws (s : State) (r : BusReply) : (s.answer r).draws = s.draws := rfl
@[simp] theorem State.answer_plane (s : State) (r : BusReply) (k : Nat) : (s.answer r).plane k = s.plane k := rfl
@[simp] theorem State.answer_token (s : State) (r : BusReply) (k : Nat) : (s.answer r).token k = s.token k := rfl

/-! ## popHost -/

@[simp] theorem State.popHost_fault (s : State) (rest : List HostEvent) : (s.popHost rest).fault = s.fault := rfl
@[simp] theorem State.popHost_havePrev (s : State) (rest : List HostEvent) : (s.popHost rest).havePrev = s.havePrev := rfl
@[simp] theorem State.popHost_ftype (s : State) (rest : List HostEvent) : (s.popHost rest).ftype = s.ftype := rfl
@[simp] theorem State.popHost_err (s : State) (rest : List HostEvent) : (s.popHost rest).err = s.err := rfl
@[simp] theorem State.popHost_width (s : State) (rest : List HostEvent) : (s.popHost rest).width = s.width := rfl
@[simp] theorem State.popHost_height (s : State) (rest : List HostEvent) : (s.popHost rest).height = s.height := rfl
@[simp] theorem State.popHost_quality (s : State) (rest : List HostEvent) : (s.popHost rest).quality = s.quality := rfl
@[simp] theorem State.popHost_ifreq (s : State) (rest : List HostEvent) : (s.popHost rest).ifreq = s.ifreq := rfl
@[simp] theorem State.popHost_frameIdx (s : State) (rest : List HostEvent) : (s.popHost rest).frameIdx = s.frameIdx := rfl
@[simp] theorem State.popHost_cmdCount (s : State) (rest : List HostEvent) : (s.popHost rest).cmdCount = s.cmdCount := rfl
@[simp] theorem State.popHost_fcmd (s : State) (rest : List HostEvent) : (s.popHost rest).fcmd = s.fcmd := rfl
@[simp] theorem State.popHost_psel (s : State) (rest : List HostEvent) : (s.popHost rest).psel = s.psel := rfl
@[simp] theorem State.popHost_paddr (s : State) (rest : List HostEvent) : (s.popHost rest).paddr = s.paddr := rfl
@[simp] theorem State.popHost_mvaddr (s : State) (rest : List HostEvent) : (s.popHost rest).mvaddr = s.mvaddr := rfl
@[simp] theorem State.popHost_tksel (s : State) (rest : List HostEvent) : (s.popHost rest).tksel = s.tksel := rfl
@[simp] theorem State.popHost_tkaddr (s : State) (rest : List HostEvent) : (s.popHost rest).tkaddr = s.tkaddr := rfl
@[simp] theorem State.popHost_planes (s : State) (rest : List HostEvent) : (s.popHost rest).planes = s.planes := rfl
@[simp] theorem State.popHost_mvb (s : State) (rest : List HostEvent) : (s.popHost rest).mvb = s.mvb := rfl
@[simp] theorem State.popHost_tokens (s : State) (rest : List HostEvent) : (s.popHost rest).tokens = s.tokens := rfl
@[simp] theorem State.popHost_params (s : State) (rest : List HostEvent) : (s.popHost rest).params = s.params := rfl
@[simp] theorem State.popHost_host (s : State) (rest : List HostEvent) : (s.popHost rest).host = rest := rfl
@[simp] theorem State.popHost_reply (s : State) (rest : List HostEvent) : (s.popHost rest).reply = s.reply := rfl
@[simp] theorem State.popHost_draws (s : State) (rest : List HostEvent) : (s.popHost rest).draws = s.draws := rfl
@[simp] theorem State.popHost_plane (s : State) (rest : List HostEvent) (k : Nat) : (s.popHost rest).plane k = s.plane k := rfl
@[simp] theorem State.popHost_token (s : State) (rest : List HostEvent) (k : Nat) : (s.popHost rest).token k = s.token k := rfl

/-! ## engineReset -/

@[simp] theorem State.engineReset_fault (s : State) : s.engineReset.fault = false := rfl
@[simp] theorem State.engineReset_havePrev (s : State) : s.engineReset.havePrev = false := rfl
@[simp] theorem State.engineReset_ftype (s : State) : s.engineReset.ftype = .iFrame := rfl
@[simp] theorem State.engineReset_err (s : State) : s.engineReset.err = .none := rfl
@[simp] theorem State.engineReset_width (s : State) : s.engineReset.width = 0 := rfl
@[simp] theorem State.engineReset_height (s : State) : s.engineReset.height = 0 := rfl
@[simp] theorem State.engineReset_quality (s : State) : s.engineReset.quality = 0 := rfl
@[simp] theorem State.engineReset_ifreq (s : State) : s.engineReset.ifreq = 0 := rfl
@[simp] theorem State.engineReset_frameIdx (s : State) : s.engineReset.frameIdx = 0 := rfl
@[simp] theorem State.engineReset_cmdCount (s : State) : s.engineReset.cmdCount = 0 := rfl
@[simp] theorem State.engineReset_fcmd (s : State) : s.engineReset.fcmd = 0 := rfl
@[simp] theorem State.engineReset_psel (s : State) : s.engineReset.psel = 0 := rfl
@[simp] theorem State.engineReset_paddr (s : State) : s.engineReset.paddr = 0 := rfl
@[simp] theorem State.engineReset_mvaddr (s : State) : s.engineReset.mvaddr = 0 := rfl
@[simp] theorem State.engineReset_tksel (s : State) : s.engineReset.tksel = 0 := rfl
@[simp] theorem State.engineReset_tkaddr (s : State) : s.engineReset.tkaddr = 0 := rfl
@[simp] theorem State.engineReset_planes (s : State) : s.engineReset.planes = Vector.replicate 32 Plane.empty := rfl
@[simp] theorem State.engineReset_mvb (s : State) : s.engineReset.mvb = MvBuffer.empty := rfl
@[simp] theorem State.engineReset_tokens (s : State) : s.engineReset.tokens = Vector.replicate 4 TokenBuf.empty := rfl
@[simp] theorem State.engineReset_params (s : State) : s.engineReset.params = s.params := rfl
@[simp] theorem State.engineReset_host (s : State) : s.engineReset.host = s.host := rfl
@[simp] theorem State.engineReset_reply (s : State) : s.engineReset.reply = s.reply := rfl
@[simp] theorem State.engineReset_draws (s : State) : s.engineReset.draws = s.draws := rfl

/-! ## emptyPlanes -/

@[simp] theorem State.emptyPlanes_fault (s : State) (i n : Nat) : (s.emptyPlanes i n).fault = s.fault := by
  induction n with
  | zero => rfl
  | succ n ih => simpa [State.emptyPlanes] using ih

@[simp] theorem State.emptyPlanes_havePrev (s : State) (i n : Nat) : (s.emptyPlanes i n).havePrev = s.havePrev := by
  induction n with
  | zero => rfl
  | succ n ih => simpa [State.emptyPlanes] using ih

@[simp] theorem State.emptyPlanes_ftype (s : State) (i n : Nat) : (s.emptyPlanes i n).ftype = s.ftype := by
  induction n with
  | zero => rfl
  | succ n ih => simpa [State.emptyPlanes] using ih

@[simp] theorem State.emptyPlanes_err (s : State) (i n : Nat) : (s.emptyPlanes i n).err = s.err := by
  induction n with
  | zero => rfl
  | succ n ih => simpa [State.emptyPlanes] using ih

@[simp] theorem State.emptyPlanes_width (s : State) (i n : Nat) : (s.emptyPlanes i n).width = s.width := by
  induction n with
  | zero => rfl
  | succ n ih => simpa [State.emptyPlanes] using ih

@[simp] theorem State.emptyPlanes_height (s : State) (i n : Nat) : (s.emptyPlanes i n).height = s.height := by
  induction n with
  | zero => rfl
  | succ n ih => simpa [State.emptyPlanes] using ih

@[simp] theorem State.emptyPlanes_quality (s : State) (i n : Nat) : (s.emptyPlanes i n).quality = s.quality := by
  induction n with
  | zero => rfl
  | succ n ih => simpa [State.emptyPlanes] using ih

@[simp] theorem State.emptyPlanes_ifreq (s : State) (i n : Nat) : (s.emptyPlanes i n).ifreq = s.ifreq := by
  induction n with
  | zero => rfl
  | succ n ih => simpa [State.emptyPlanes] using ih

@[simp] theorem State.emptyPlanes_frameIdx (s : State) (i n : Nat) : (s.emptyPlanes i n).frameIdx = s.frameIdx := by
  induction n with
  | zero => rfl
  | succ n ih => simpa [State.emptyPlanes] using ih

@[simp] theorem State.emptyPlanes_cmdCount (s : State) (i n : Nat) : (s.emptyPlanes i n).cmdCount = s.cmdCount := by
  induction n with
  | zero => rfl
  | succ n ih => simpa [State.emptyPlanes] using ih

@[simp] theorem State.emptyPlanes_fcmd (s : State) (i n : Nat) : (s.emptyPlanes i n).fcmd = s.fcmd := by
  induction n with
  | zero => rfl
  | succ n ih => simpa [State.emptyPlanes] using ih

@[simp] theorem State.emptyPlanes_psel (s : State) (i n : Nat) : (s.emptyPlanes i n).psel = s.psel := by
  induction n with
  | zero => rfl
  | succ n ih => simpa [State.emptyPlanes] using ih

@[simp] theorem State.emptyPlanes_paddr (s : State) (i n : Nat) : (s.emptyPlanes i n).paddr = s.paddr := by
  induction n with
  | zero => rfl
  | succ n ih => simpa [State.emptyPlanes] using ih

@[simp] theorem State.emptyPlanes_mvaddr (s : State) (i n : Nat) : (s.emptyPlanes i n).mvaddr = s.mvaddr := by
  induction n with
  | zero => rfl
  | succ n ih => simpa [State.emptyPlanes] using ih

@[simp] theorem State.emptyPlanes_tksel (s : State) (i n : Nat) : (s.emptyPlanes i n).tksel = s.tksel := by
  induction n with
  | zero => rfl
  | succ n ih => simpa [State.emptyPlanes] using ih

@[simp] theorem State.emptyPlanes_tkaddr (s : State) (i n : Nat) : (s.emptyPlanes i n).tkaddr = s.tkaddr := by
  induction n with
  | zero => rfl
  | succ n ih => simpa [State.emptyPlanes] using ih

@[simp] theorem State.emptyPlanes_mvb (s : State) (i n : Nat) : (s.emptyPlanes i n).mvb = s.mvb := by
  induction n with
  | zero => rfl
  | succ n ih => simpa [State.emptyPlanes] using ih

@[simp] theorem State.emptyPlanes_tokens (s : State) (i n : Nat) : (s.emptyPlanes i n).tokens = s.tokens := by
  induction n with
  | zero => rfl
  | succ n ih => simpa [State.emptyPlanes] using ih

@[simp] theorem State.emptyPlanes_params (s : State) (i n : Nat) : (s.emptyPlanes i n).params = s.params := by
  induction n with
  | zero => rfl
  | succ n ih => simpa [State.emptyPlanes] using ih

@[simp] theorem State.emptyPlanes_host (s : State) (i n : Nat) : (s.emptyPlanes i n).host = s.host := by
  induction n with
  | zero => rfl
  | succ n ih => simpa [State.emptyPlanes] using ih

@[simp] theorem State.emptyPlanes_reply (s : State) (i n : Nat) : (s.emptyPlanes i n).reply = s.reply := by
  induction n with
  | zero => rfl
  | succ n ih => simpa [State.emptyPlanes] using ih

@[simp] theorem State.emptyPlanes_draws (s : State) (i n : Nat) : (s.emptyPlanes i n).draws = s.draws := by
  induction n with
  | zero => rfl
  | succ n ih => simpa [State.emptyPlanes] using ih

@[simp] theorem State.emptyPlanes_token (s : State) (i n k : Nat) : (s.emptyPlanes i n).token k = s.token k := by
  simp [State.token]

/-! ## Reading a register file after a write of it -/

@[simp] theorem State.plane_setPlane_self (s : State) {i : Nat} (p : Plane) (h : i < 32) : (s.setPlane i p).plane i = p := by
  simp [State.plane, State.setPlane, h]

@[simp] theorem State.plane_setPlane_ne (s : State) {i k : Nat} (p : Plane) (h : i ≠ k) :
    (s.setPlane i p).plane k = s.plane k := by
  simp [State.plane, State.setPlane, h]

theorem State.plane_setPlane (s : State) {i : Nat} (k : Nat) (p : Plane) (h : i < 32) :
    (s.setPlane i p).plane k = if i = k then p else s.plane k := by
  by_cases hk : i = k
  · subst hk; simp [h]
  · simp [hk]

theorem State.plane_setTriple (s : State) {i : Nat} (k : Nat) (p q r : Plane) (h : i + 2 < 32) :
    (s.setTriple i p q r).plane k =
      if k = i then p else if k = i + 1 then q else if k = i + 2 then r else s.plane k := by
  unfold State.setTriple
  rw [State.plane_setPlane _ _ _ (by omega), State.plane_setPlane _ _ _ (by omega),
    State.plane_setPlane _ _ _ (by omega)]
  split_ifs <;> first | rfl | omega

theorem State.plane_emptyPlanes (s : State) {i n : Nat} (k : Nat) (h : i + n ≤ 32) :
    (s.emptyPlanes i n).plane k = if i ≤ k ∧ k < i + n then Plane.empty else s.plane k := by
  induction n with
  | zero => rw [State.emptyPlanes, if_neg (by omega)]
  | succ n ih =>
    rw [State.emptyPlanes, State.plane_setPlane _ _ _ (by omega), ih (by omega)]
    split_ifs <;> first | rfl | omega

@[simp] theorem State.token_setToken_self (s : State) {t : Nat} (b : TokenBuf) (h : t < 4) :
    (s.setToken t b).token t = b := by
  simp [State.token, State.setToken, h]

@[simp] theorem State.token_setToken_ne (s : State) {t k : Nat} (b : TokenBuf) (h : t ≠ k) :
    (s.setToken t b).token k = s.token k := by
  simp [State.token, State.setToken, h]

@[simp] theorem State.token_invalidateToken_ne (s : State) {t k : Nat} (h : t ≠ k) :
    (s.invalidateToken t).token k = s.token k := by
  simp [State.invalidateToken, h]

@[simp] theorem State.engineReset_plane (s : State) (k : Nat) : s.engineReset.plane k = Plane.empty := by
  by_cases h : k < 32 <;> simp [State.plane, h]

@[simp] theorem State.engineReset_token (s : State) (k : Nat) : s.engineReset.token k = TokenBuf.empty := by
  by_cases h : k < 4 <;> simp [State.token, h]

/-! ## The arithmetic of a state -/

@[simp] theorem State.arith_format (s : State) : s.arith.format = s.params.format := rfl
@[simp] theorem State.arith_draw (s : State) : s.arith.draw = s.draws := rfl
@[simp] theorem State.setPlane_arith (s : State) (i : Nat) (p : Plane) : (s.setPlane i p).arith = s.arith := rfl
@[simp] theorem State.setTriple_arith (s : State) (i : Nat) (p q r : Plane) : (s.setTriple i p q r).arith = s.arith := rfl
@[simp] theorem State.setToken_arith (s : State) (t : Nat) (b : TokenBuf) : (s.setToken t b).arith = s.arith := rfl
@[simp] theorem State.invalidateToken_arith (s : State) (t : Nat) : (s.invalidateToken t).arith = s.arith := rfl
@[simp] theorem State.setMvb_arith (s : State) (b : MvBuffer) : (s.setMvb b).arith = s.arith := rfl
@[simp] theorem State.invalidateMvb_arith (s : State) : (s.invalidateMvb).arith = s.arith := rfl
@[simp] theorem State.raiseFault_arith (s : State) (code : FaultCode) (c : Word) : (s.raiseFault code c).arith = s.arith := rfl
@[simp] theorem State.countCommand_arith (s : State) : (s.countCommand).arith = s.arith := rfl
@[simp] theorem State.answer_arith (s : State) (r : BusReply) : (s.answer r).arith = s.arith := rfl
@[simp] theorem State.popHost_arith (s : State) (rest : List HostEvent) : (s.popHost rest).arith = s.arith := rfl
@[simp] theorem State.engineReset_arith (s : State) : (s.engineReset).arith = s.arith := rfl
@[simp] theorem State.emptyPlanes_arith (s : State) (i n : Nat) : (s.emptyPlanes i n).arith = s.arith := by
  simp [State.arith]
@[simp] theorem State.nextDraw_arith (s : State) : s.nextDraw.arith = { s.arith with draw := s.draws + 1 } := rfl

end Sys2Proof.Machine
end

