-- ==== Sys2Proof/Laws/Ops.lean ====
section
/-! SUPPORT. What each shared operation can do, said once; the provers cite these instead of unfolding it. -/

namespace Sys2Proof.Machine

open Sys2Proof

/-! ## The frame of a command -/

theorem firstFailure_eq_none {l : List (Bool × FaultCode)} :
    firstFailure l = none ↔ ∀ c ∈ l, c.1 = true := by
  induction l with
  | nil => simp [firstFailure]
  | cons c rest ih => cases h : c.1 <;> simp [firstFailure, h, ih]

theorem firstFailure_mem {l : List (Bool × FaultCode)} {code : FaultCode} (h : firstFailure l = some code) :
    (false, code) ∈ l := by
  induction l with
  | nil => simp [firstFailure] at h
  | cons c rest ih =>
    obtain ⟨passes, code'⟩ := c
    cases passes
    · simp [firstFailure] at h; simp [h]
    · simp [firstFailure] at h; exact List.mem_cons_of_mem _ (ih h)

theorem runCommand_halted {i : Instr} {checks : List (Bool × FaultCode)} {effect : State → State} {s : State}
    (h : s.fault = true) : runCommand i checks effect s = .next s := by
  simp [runCommand, h]

theorem runCommand_failed {i : Instr} {checks : List (Bool × FaultCode)} {effect : State → State} {s : State}
    {code : FaultCode} (h : s.fault = false) (hc : firstFailure (legalWord i :: checks) = some code) :
    runCommand i checks effect s = .next (s.raiseFault code (encode i)) := by
  simp [runCommand, h, hc]

theorem runCommand_completed {i : Instr} {checks : List (Bool × FaultCode)} {effect : State → State} {s : State}
    (h : s.fault = false) (hc : firstFailure (legalWord i :: checks) = none) :
    runCommand i checks effect s = .next (effect s).countCommand := by
  simp [runCommand, h, hc]

/-- Everything a command can do: nothing while halted, a fault with three fields changed, or its effect and the count. -/
theorem runCommand_cases {i : Instr} {checks : List (Bool × FaultCode)} {effect : State → State} {s t : State}
    (h : runCommand i checks effect s = .next t) :
    (s.fault = true ∧ t = s) ∨
    (s.fault = false ∧ ∃ code, (false, code) ∈ legalWord i :: checks ∧ t = s.raiseFault code (encode i)) ∨
    (s.fault = false ∧ (∀ c ∈ legalWord i :: checks, c.1 = true) ∧ t = (effect s).countCommand) := by
  unfold runCommand at h
  cases hf : s.fault
  · simp only [hf, Bool.false_eq_true, if_false] at h
    split at h
    · rename_i code hc
      cases h; exact .inr (.inl ⟨rfl, code, firstFailure_mem hc, rfl⟩)
    · rename_i hc
      cases h; exact .inr (.inr ⟨rfl, firstFailure_eq_none.mp hc, rfl⟩)
  · simp only [hf, if_true] at h
    cases h; exact .inl ⟨rfl, rfl⟩

/-- A command always answers a next state. -/
theorem runCommand_next (i : Instr) (checks : List (Bool × FaultCode)) (effect : State → State) (s : State) :
    ∃ t, runCommand i checks effect s = .next t := by
  unfold runCommand
  split
  · exact ⟨_, rfl⟩
  · split <;> exact ⟨_, rfl⟩

/-! ## Planes a command builds -/

@[simp] theorem Plane.buildIdx_state (w h : Nat) (tag : Tag) (f : Nat → Sample) : (Plane.buildIdx w h tag f).state = .valid := rfl
@[simp] theorem Plane.buildIdx_w (w h : Nat) (tag : Tag) (f : Nat → Sample) : (Plane.buildIdx w h tag f).w = w := rfl
@[simp] theorem Plane.buildIdx_h (w h : Nat) (tag : Tag) (f : Nat → Sample) : (Plane.buildIdx w h tag f).h = h := rfl
@[simp] theorem Plane.buildIdx_tag (w h : Nat) (tag : Tag) (f : Nat → Sample) : (Plane.buildIdx w h tag f).tag = tag := rfl
@[simp] theorem Plane.buildIdx_fill (w h : Nat) (tag : Tag) (f : Nat → Sample) : (Plane.buildIdx w h tag f).fill = w * h := rfl
@[simp] theorem Plane.buildIdx_length (w h : Nat) (tag : Tag) (f : Nat → Sample) :
    (Plane.buildIdx w h tag f).data.length = w * h := by simp [Plane.buildIdx]

@[simp] theorem Plane.build_state (w h : Nat) (tag : Tag) (f : Nat → Nat → Sample) : (Plane.build w h tag f).state = .valid := rfl
@[simp] theorem Plane.build_w (w h : Nat) (tag : Tag) (f : Nat → Nat → Sample) : (Plane.build w h tag f).w = w := rfl
@[simp] theorem Plane.build_h (w h : Nat) (tag : Tag) (f : Nat → Nat → Sample) : (Plane.build w h tag f).h = h := rfl
@[simp] theorem Plane.build_tag (w h : Nat) (tag : Tag) (f : Nat → Nat → Sample) : (Plane.build w h tag f).tag = tag := rfl
@[simp] theorem Plane.build_fill (w h : Nat) (tag : Tag) (f : Nat → Nat → Sample) : (Plane.build w h tag f).fill = w * h := rfl
@[simp] theorem Plane.build_length (w h : Nat) (tag : Tag) (f : Nat → Nat → Sample) :
    (Plane.build w h tag f).data.length = w * h := by simp [Plane.build]

/-- The sample of index `k` of a plane built by index. -/
theorem Plane.nth_buildIdx {w h k : Nat} (tag : Tag) (f : Nat → Sample) (hk : k < w * h) :
    (Plane.buildIdx w h tag f).nth k = f k := by
  simp [Plane.nth, Plane.buildIdx, List.getD, hk]

/-- The index of a sample inside a plane lies inside its data. -/
theorem sampleIndex_lt {w h x y : Nat} (hx : x < w) (hy : y < h) : y * w + x < w * h := by
  calc y * w + x < y * w + w := by omega
    _ = (y + 1) * w := by ring
    _ ≤ h * w := Nat.mul_le_mul_right _ hy
    _ = w * h := Nat.mul_comm _ _

theorem sampleIndex_mod {w x : Nat} (y : Nat) (hx : x < w) : (y * w + x) % w = x := by
  rw [Nat.mul_comm, Nat.mul_add_mod]; exact Nat.mod_eq_of_lt hx

theorem sampleIndex_div {w x : Nat} (y : Nat) (hx : x < w) : (y * w + x) / w = y := by
  rw [Nat.mul_comm, Nat.mul_add_div (by omega), Nat.div_eq_of_lt hx, Nat.add_zero]

/-- The sample at `(x, y)` of a plane built by position. -/
theorem Plane.sample_build {w h x y : Nat} (tag : Tag) (f : Nat → Nat → Sample) (hx : x < w) (hy : y < h) :
    (Plane.build w h tag f).sample x y = f x y := by
  have hk := sampleIndex_lt hx hy
  simp [Plane.sample, Plane.build, Plane.buildIdx, List.getD, hk, sampleIndex_mod y hx, sampleIndex_div y hx]

/-! ## Fields of a command word -/

theorem packFields_toNat {op d a b : Nat} (ho : op < 256) (hd : d < 32) (ha : a < 32) (hb : b < 32) :
    (packFields op d a b).toNat = op + d * 2 ^ 8 + a * 2 ^ 13 + b * 2 ^ 18 := by
  simp only [packFields, BitVec.toNat_ofNat]
  omega

/-- The fields of a packed word are the fields packed (spec/30_encoding.md R70). -/
theorem slice_packFields {op d a b : Nat} (ho : op < 256) (hd : d < 32) (ha : a < 32) (hb : b < 32) :
    slice (packFields op d a b) 0 8 = op ∧ slice (packFields op d a b) 8 5 = d ∧
      slice (packFields op d a b) 13 5 = a ∧ slice (packFields op d a b) 18 5 = b ∧
      slice (packFields op d a b) 23 9 = 0 := by
  simp only [slice, packFields_toNat ho hd ha hb]
  omega

end Sys2Proof.Machine
end

