-- ==== Sys2Proof/Laws/PerInstr.lean ====
section
/-! SUPPORT. Laws of every command as syntax, one lemma a constructor. -/

namespace Sys2Proof.Laws.MatchesTable

open Sys2Proof

/-- The `mask` column of spec/30_encoding.md R72. -/
def mask : Instr → Word
  | .nop => 0xFFFFFFFF
  | .csc _ _ => 0xFFFC00FF
  | .lpf _ _ => 0xFFFC00FF
  | .mest _ _ => 0xFF801FFF
  | .delta _ _ _ => 0xFF8000FF
  | .subs _ _ => 0xFFFC00FF
  | .dct _ _ => 0xFFFC00FF
  | .quant _ _ => 0xFFFC00FF
  | .dcpred _ _ => 0xFFFC00FF
  | .zigzag _ _ => 0xFFFC00FF
  | .tokens _ _ => 0xFFFC1CFF
  | .copy _ _ => 0xFFFC00FF
  | .pdef _ _ => 0xFFFF80FF
  | .frame => 0xFFFFFFFF
  | .endseq => 0xFFFFFFFF

/-- The `match` column of spec/30_encoding.md R72. -/
def pattern : Instr → Word
  | .nop => 0x00000000
  | .csc _ _ => 0x00000001
  | .lpf _ _ => 0x00000002
  | .mest _ _ => 0x00000003
  | .delta _ _ _ => 0x00000004
  | .subs _ _ => 0x00000005
  | .dct _ _ => 0x00000006
  | .quant _ _ => 0x00000007
  | .dcpred _ _ => 0x00000008
  | .zigzag _ _ => 0x00000009
  | .tokens _ _ => 0x0000000A
  | .copy _ _ => 0x0000000B
  | .pdef _ _ => 0x0000000C
  | .frame => 0x0000000D
  | .endseq => 0x0000000E

/-- The word of a command selects its own row of the opcode map (spec/30_encoding.md R72). -/
def Statement (i : Instr) : Prop := encode i &&& mask i = pattern i

theorem nop : Statement .nop := by unfold Statement; decide
theorem csc (d a : PlaneReg) : Statement (.csc d a) := by
  unfold Statement; revert d a; decide +kernel
theorem lpf (d a : PlaneReg) : Statement (.lpf d a) := by
  unfold Statement; revert d a; decide +kernel
theorem mest (a b : PlaneReg) : Statement (.mest a b) := by
  unfold Statement; revert a b; decide +kernel
/-- The words of `DELTA` with `b = 0`, and the `b` field alone, lie in disjoint bits. -/
theorem delta_low (d a : PlaneReg) :
    packFields 0x04 d a 0 &&& 0xFF8000FF = 0x04 ∧ packFields 0x04 d a 0 &&& 0x0003FFFF = packFields 0x04 d a 0 := by
  revert d a; decide +kernel

theorem delta_high (b : PlaneReg) :
    packFields 0 0 0 b &&& 0xFF8000FF = 0 ∧ packFields 0 0 0 b &&& 0x007C0000 = packFields 0 0 0 b := by
  revert b; decide +kernel

theorem delta (d a b : PlaneReg) : Statement (.delta d a b) := by
  obtain ⟨hl, hl'⟩ := delta_low d a
  obtain ⟨hh, hh'⟩ := delta_high b
  have hsum : packFields 0x04 d a b = packFields 0x04 d a 0 + packFields 0 0 0 b := by
    apply BitVec.eq_of_toNat_eq
    simp only [packFields, BitVec.toNat_add, BitVec.toNat_ofNat]
    omega
  have hdisj : packFields 0x04 d a 0 &&& packFields 0 0 0 b = 0 := by
    have hz : (0x0003FFFF : Word) &&& 0x007C0000 = 0 := by decide
    rw [← hl', ← hh', BitVec.and_assoc, BitVec.and_comm (packFields 0 0 0 b), ← BitVec.and_assoc (0x0003FFFF : Word), hz]
    simp
  show packFields 0x04 d a b &&& 0xFF8000FF = 0x04
  rw [hsum, BitVec.add_eq_or_of_and_eq_zero _ _ hdisj, BitVec.and_or_distrib_right, hl, hh]
  decide
theorem subs (d a : PlaneReg) : Statement (.subs d a) := by
  unfold Statement; revert d a; decide +kernel
theorem dct (d a : PlaneReg) : Statement (.dct d a) := by
  unfold Statement; revert d a; decide +kernel
theorem quant (d a : PlaneReg) : Statement (.quant d a) := by
  unfold Statement; revert d a; decide +kernel
theorem dcpred (d a : PlaneReg) : Statement (.dcpred d a) := by
  unfold Statement; revert d a; decide +kernel
theorem zigzag (d a : PlaneReg) : Statement (.zigzag d a) := by
  unfold Statement; revert d a; decide +kernel
theorem tokens (t : TokenReg) (a : PlaneReg) : Statement (.tokens t a) := by
  unfold Statement; revert t a; decide +kernel
theorem copy (d a : PlaneReg) : Statement (.copy d a) := by
  unfold Statement; revert d a; decide +kernel
theorem pdef (d : PlaneReg) (tag : Tag) : Statement (.pdef d tag) := by
  unfold Statement; cases tag <;> revert d <;> decide +kernel
theorem frame : Statement .frame := by unfold Statement; decide
theorem endseq : Statement .endseq := by unfold Statement; decide

end Sys2Proof.Laws.MatchesTable
end

