-- ==== Sys2Proof/Laws/Wf.lean ====
section
/-! SUPPORT. Each operation on the stores keeps their form (`State.wf`), said once for each operation. -/

namespace Sys2Proof.Machine

open Sys2Proof

/-! ## Planes -/

/-- The last clause of `Plane.wf`, sample by sample. -/
theorem Plane.lt_of_wf {prm : Params} {p : Plane} (h : p.wf prm) : ∀ v ∈ p.data, v.toNat < 2 ^ prm.format.width := by
  simpa using h.2.2.2.2.2

theorem Plane.empty_wf (prm : Params) : Plane.empty.wf prm := by
  simp [Plane.wf, Plane.empty]

/-- A plane built by index is well-formed when its size is and its samples are patterns of the format. -/
theorem Plane.buildIdx_wf {prm : Params} {w h : Nat} (tag : Tag) {f : Nat → Sample} (hw : 1 ≤ w) (hh : 1 ≤ h)
    (hc : w * h ≤ prm.planeCap) (hf : ∀ k < w * h, (f k).toNat < 2 ^ prm.format.width) :
    (Plane.buildIdx w h tag f).wf prm := by
  simpa [Plane.wf, Plane.buildIdx, hw, hh, hc] using hf

theorem Plane.build_wf {prm : Params} {w h : Nat} (tag : Tag) {f : Nat → Nat → Sample} (hw : 1 ≤ w) (hh : 1 ≤ h)
    (hc : w * h ≤ prm.planeCap) (hf : ∀ x y, (f x y).toNat < 2 ^ prm.format.width) :
    (Plane.build w h tag f).wf prm := Plane.buildIdx_wf tag hw hh hc fun _ _ => hf _ _

/-- Every sample of a well-formed plane, inside it or not, is a pattern of the format. -/
theorem Plane.nth_lt {prm : Params} {p : Plane} (h : p.wf prm) (k : Nat) : (p.nth k).toNat < 2 ^ prm.format.width := by
  simp only [Plane.nth, List.getD]
  cases hk : p.data[k]? with
  | none => simp [kPosZero]
  | some v => exact Plane.lt_of_wf h v (List.mem_of_getElem? hk)

theorem Plane.sample_lt {prm : Params} {p : Plane} (h : p.wf prm) (x y : Nat) :
    (p.sample x y).toNat < 2 ^ prm.format.width := Plane.nth_lt h _

/-- The value of a word is a pattern of the format. -/
theorem ffrom_lt (f : SampleFormat) (v : Word) : (ffrom f v).toNat < 2 ^ f.width := by
  cases f
  · have := v.isLt
    simp only [ffrom, SampleFormat.width, BitVec.toNat_setWidth]; omega
  · exact (ffrom .binary64 v).isLt

/-- Loading one more sample of a `LOADING` plane keeps the form. -/
theorem Plane.append_wf {prm : Params} {p : Plane} {v : Sample} (h : p.wf prm) (hl : p.state = .loading)
    (hv : v.toNat < 2 ^ prm.format.width) : (p.append v).wf prm := by
  have hs := Plane.lt_of_wf h
  obtain ⟨hd, hc, -, hload, -, -⟩ := h
  obtain ⟨hw, hh, hf⟩ := hload hl
  refine ⟨by simp [Plane.append, hd], hc, ?_, ?_, ?_, ?_⟩
  rotate_right
  · have hall : ∀ u ∈ p.data ++ [v], u.toNat < 2 ^ prm.format.width := fun u hu =>
      (List.mem_append.mp hu).elim (hs u) fun e => List.mem_singleton.mp e ▸ hv
    simpa only [Plane.append, List.all_eq_true, decide_eq_true_eq] using hall
  all_goals simp only [Plane.append]; split_ifs with hfull
  · simp
  · simp [hl]
  · simp
  · exact fun _ => ⟨hw, hh, by omega⟩
  · exact fun _ => ⟨hw, hh, hfull⟩
  · simp [hl]

/-! ## Buffers -/

theorem MvBuffer.invalidate_wf {b : MvBuffer} (h : b.wf) : MvBuffer.wf { b with valid := false } := h

theorem TokenBuf.invalidate_wf {cap : Nat} {b : TokenBuf} (h : b.wf cap) : TokenBuf.wf cap { b with valid := false } := h

/-! ## The state -/

theorem State.setPlane_wf {s : State} {i : Nat} {p : Plane} (h : s.wf) (hi : i < 32) (hp : p.wf s.params) :
    (s.setPlane i p).wf := by
  obtain ⟨hparams, hplanes, hmvb, htokens, hfault⟩ := h
  refine ⟨hparams, fun k => ?_, hmvb, htokens, hfault⟩
  rw [State.plane_setPlane s _ p hi]
  split
  · exact hp
  · exact hplanes k

theorem State.setMvb_wf {s : State} {b : MvBuffer} (h : s.wf) (hb : b.wf) : (s.setMvb b).wf :=
  ⟨h.1, h.2.1, hb, h.2.2.2⟩

theorem State.countCommand_wf {s : State} (h : s.wf) : s.countCommand.wf := h

theorem State.nextDraw_wf {s : State} (h : s.wf) : s.nextDraw.wf := h

theorem State.raiseFault_wf {s : State} {code : FaultCode} (c : Word) (h : s.wf) (hn : code ≠ .none)
    (hb : code ≠ .backend) : (s.raiseFault code c).wf :=
  ⟨h.1, h.2.1, h.2.2.1, h.2.2.2.1, by simp [State.raiseFault], fun _ => ⟨hn, hb⟩⟩

end Sys2Proof.Machine
end

