-- ==== Sys2Proof/Tests/Slice0.lean ====
section
/-! SUPPORT. Tests of the model against the worked examples and vectors of the spec, one step each, and for every
obligation with hypotheses a concrete state that meets them (`witness_<obligation>…`). -/

namespace Sys2Proof.Tests

open Sys2Proof Sys2Proof.Machine Sys2Proof.Claims

-- One theorem at a time: these are many kernel evaluations, and each one waiting would hold a thread of its own.
set_option Elab.async false

/-! ## Small states -/

/-- The state an outcome answers. -/
def out : Host.Outcome State Fault Refusal → State
  | .next t => t
  | _ => State.reset

/-- The binary32 pattern of a natural number, as a sample. -/
def nat (n : Nat) : Sample := ofRat .binary32 n 1

/-- Its negative. -/
def neg (n : Nat) : Sample := fneg .binary32 (nat n)

/-- The arithmetic of each format, at one draw number. -/
def n32 : Arith := { format := .binary32, draw := 0 }

def n64 : Arith := { format := .binary64, draw := 0 }

/-- A `VALID` plane of that size with those samples. -/
def planeOfList (w h : Nat) (tag : Tag) (data : List Sample) : Plane :=
  { state := .valid, w := w, h := h, tag := tag, fill := w * h, data := data }

/-- A `VALID` plane of equal samples. -/
def flat (w h : Nat) (tag : Tag) (v : Sample) : Plane := planeOfList w h tag (List.replicate (w * h) v)

/-- The reset state with some planes loaded. -/
def loaded (ps : List (Nat × Plane)) : State := ps.foldl (fun s kp => s.setPlane kp.1 kp.2) State.reset

/-- The reset state with the same plane in each of the registers `ks`. -/
def allOf (ks : List Nat) (p : Plane) : State := loaded (ks.map fun k => (k, p))

/-- The reset state with the host about to make some accesses. -/
def hosted (es : List HostEvent) : State := { State.reset with host := es }

/-- A state halted by a fault, with the host about to make some accesses. -/
def halted (es : List HostEvent) : State := (hosted es).raiseFault .illegal 0x0000000F

/-- A state ready for a `FRAME` of that size: flat planes in the registers `ks`. -/
def frameState (w h : Nat) (ks : List Nat) : State :=
  { allOf ks (flat w h .fullsize 0x43000000) with
    width := BitVec.ofNat 32 w
    height := BitVec.ofNat 32 h
    quality := 0x3F800000
    ifreq := 2 }

/-! ## WellFormed refuses each ill-formed term (spec/30_encoding.md R71, R73) -/

theorem test_csc_destination_base : (Instr.csc 30 0).wellFormed = false := by decide
theorem test_csc_source_base : (Instr.csc 0 31).wellFormed = false := by decide
theorem test_mest_reference_base : (Instr.mest 30 0).wellFormed = false := by decide
theorem test_mest_target_base : (Instr.mest 0 31).wellFormed = false := by decide
theorem test_delta_destination_base : (Instr.delta 30 0 0).wellFormed = false := by decide
theorem test_delta_reference_base : (Instr.delta 0 31 0).wellFormed = false := by decide
theorem test_delta_target_base : (Instr.delta 0 0 30).wellFormed = false := by decide
theorem test_triple_base_29_is_legal : (Instr.delta 29 29 29).wellFormed = true := by decide

/-! ## Decoding: words of spec/30_encoding.md R81 and of spec/95_worked_examples.md 2.2, bit by bit -/

/-- `op` in bits 7:0, `d` in 12:8, `a` in 17:13, `b` in 22:18, the rest 0. -/
def word (z : BitVec 9) (b a d : BitVec 5) (op : BitVec 8) : Word := z ++ b ++ a ++ d ++ op

theorem test_decode_nop : decode (word 0 0 0 0 0x00) = .ok .nop := by decide
theorem test_decode_csc : decode 0x00000001 = .ok (.csc 0 0) := by decide
theorem test_decode_csc_fields : decode (word 0 0 0b00011 0b11101 0x01) = .ok (.csc 29 3) := by decide
theorem test_decode_lpf : decode (word 0 0 0b00001 0b00100 0x02) = .ok (.lpf 4 1) := by decide
theorem test_decode_mest : decode (word 0 0b00011 0b00110 0 0x03) = .ok (.mest 6 3) := by decide
theorem test_decode_delta : decode (word 0 0b00011 0b00110 0b01001 0x04) = .ok (.delta 9 6 3) := by decide
theorem test_decode_subs : decode (word 0 0 0b01010 0b01100 0x05) = .ok (.subs 12 10) := by decide
theorem test_decode_dct : decode (word 0 0 0b01001 0b01110 0x06) = .ok (.dct 14 9) := by decide
theorem test_decode_quant : decode (word 0 0 0b01110 0b10001 0x07) = .ok (.quant 17 14) := by decide
theorem test_decode_dcpred : decode (word 0 0 0b10001 0b10100 0x08) = .ok (.dcpred 20 17) := by decide
theorem test_decode_zigzag : decode (word 0 0 0b10001 0b10111 0x09) = .ok (.zigzag 23 17) := by decide
theorem test_decode_tokens : decode (word 0 0 0b10111 0 0x0A) = .ok (.tokens 0 23) := by decide
theorem test_decode_tokens_word : decode 0x0000800A = .ok (.tokens 0 4) := by decide
theorem test_decode_copy : decode (word 0 0 0b00011 0b00110 0x0B) = .ok (.copy 6 3) := by decide
theorem test_decode_pdef : decode (word 0 0 0 0 0x0C) = .ok (.pdef 0 .fullsize) := by decide
theorem test_decode_pdef_tag : decode 0x0000600C = .ok (.pdef 0 .zigzag) := by decide
theorem test_decode_frame : decode (word 0 0 0 0 0x0D) = .ok .frame := by decide
theorem test_decode_endseq : decode (word 0 0 0 0 0x0E) = .ok .endseq := by decide
theorem test_decode_opcode : decode 0x0000000F = .error .opcode := by decide
theorem test_decode_highBits : decode 0x00800000 = .error .highBits := by decide
theorem test_decode_tripleBase : decode 0x00001E01 = .error .tripleBase := by decide
theorem test_decode_tokenField : decode 0x0000040A = .error .tokenField := by decide
theorem test_decode_tagField : decode 0x0000800C = .error .tagField := by decide
theorem test_decode_mustBeZero : decode 0x00000100 = .error .mustBeZero := by decide
theorem test_encode_delta : encode (.delta 9 6 3) = 0x000CC904 := by decide
theorem test_encode_pdef : encode (.pdef 0 .zigzag) = 0x0000600C := by decide
theorem test_table_word : decodeTableWord 32 0x0001D107 = some (.quant 17 14) := by decide
theorem test_fetch_word :
    out (step (State.reset.withFetchWord 32 0x00000000)) =
      { State.reset with cmdCount := 1, reply := .done } := by decide +kernel

/-! ## Arithmetic primitives (spec/95_worked_examples.md 2.1) -/

theorem test_fround_ties :
    [0x3F000000, 0xBF000000, 0x40200000, 0x4AFFFFFF].map (fround n32 .away) =
      [0x3F800000, 0xBF800000, 0x40400000, 0x4B000000] := by decide +kernel
theorem test_fround_near :
    [0x3EFFFFFF, 0xBE99999A, 0x80000000, 0x4B000000, 0x420FFFFF].map (fround n32 .away) =
      [0x00000000, 0x80000000, 0x80000000, 0x4B000000, 0x42100000] := by decide +kernel
theorem test_fceil :
    [0x3F800000, 0x3F800001, 0x3DCCCCCD, 0xBE99999A, 0x412E8BA3].map (fceil n32) =
      [0x3F800000, 0x40000000, 0x3F800000, 0x80000000, 0x41300000] := by decide +kernel
theorem test_fmul_scale :
    fmul n32 (fmul n32 (k0_25 .binary32) 0x3F3504F3) 0x3F3504F3 = 0x3DFFFFFF ∧
      fmul n32 (fmul n32 (k0_25 .binary32) 0x3F800000) 0x3F3504F3 = 0x3E3504F3 := by decide +kernel
/-- spec/00_scope.md R5: the default parameters have the shape the spec asks for. -/
theorem test_default_params : defaultParams.wf := by decide +kernel

/-! ## Commands (vectors of spec/95_worked_examples.md; `D` of each name is the destination) -/

theorem test_nop : (out (exec .nop State.reset)).cmdCount = 1 := by decide +kernel

/-- 2.3, the row `200, 100, 50`. -/
theorem test_csc :
    let t := out (exec (.csc 3 0) (loaded [(0, flat 1 1 .fullsize (nat 200)), (1, flat 1 1 .fullsize (nat 100)),
      (2, flat 1 1 .fullsize (nat 50))]))
    (t.plane 3).data = [0x42F84CCD] ∧ (t.plane 4).data = [0x42AC40B8] ∧ (t.plane 5).data = [0x433610CB] := by
  decide +kernel
/-- 2.3, the row `255, 0, 0`, with the destination triple overlapping the source triple (spec/40_color_convert.md R90). -/
theorem test_csc_overlap :
    let t := out (exec (.csc 1 0) (loaded [(0, flat 1 1 .fullsize (nat 255)), (1, flat 1 1 .fullsize 0),
      (2, flat 1 1 .fullsize 0)]))
    (t.plane 1).data = [0x42987D70] ∧ (t.plane 2).data = [0x42A9F1D4] ∧ (t.plane 3).data = [0x437F8000] := by
  decide +kernel

/-- The source plane of V-LPF-2. -/
def lpfSource : Plane := planeOfList 4 4 .fullsize ([1, 2, 3, 4, 5, 16, 7, 8, 9, 10, 31, 12, 13, 14, 15, 20].map nat)

/-- V-LPF-2. -/
theorem test_lpf :
    ((out (exec (.lpf 2 1) (loaded [(1, lpfSource)]))).plane 2).data =
      ([1, 2, 3, 4, 5].map nat) ++ [0x411C0000, 0x412C0000] ++ ([8, 9].map nat) ++ [0x415C0000, 0x41850000] ++
        ([12, 13, 14, 15, 20].map nat) := by decide +kernel
/-- V-LPF-2 with `LPF_VPASS = in_place`: `13.4375 16.9375`. -/
theorem test_lpf_inPlace :
    let s := loaded [(1, lpfSource)]
    let t := out (exec (.lpf 2 1) { s with params := { s.params with lpfVpass := .inPlace } })
    [(t.plane 2).sample 1 2, (t.plane 2).sample 2 2] = [ofRat .binary32 134375 10000, ofRat .binary32 169375 10000] := by decide +kernel

/-- V-MEST-5: 32x32 has no searched block, and the counts of the other sizes. -/
theorem test_mest_sizes :
    let t := out (exec (.mest 0 3) (allOf [0, 1, 2, 3, 4, 5] (flat 32 32 .fullsize 0)))
    t.mvb = { valid := true, w := 32, h := 32, count := 0, vec := [] } ∧
      [nmb 48 48, nmb 47 100, nmb 80 48, nmb 64 64] = [1, 0, 3, 4] := by decide +kernel
/-- V-MEST-6: one sample off by 9 gives the SAD 9, and of costs `4.5, 0, 0, …` the scan prefers the second. -/
theorem test_mest_order :
    sadOf n32 (flat 16 16 .fullsize 0) (planeOfList 16 16 .fullsize (nat 9 :: List.replicate 255 0)) 0 0 0 0 = nat 9 ∧
      scanBest .binary32 .first (fun c => if c = (0, 0) then 0x40900000 else 0) (0, 0) ((rasterPairs 32).tail.take 40) = (1, 0) := by
  decide +kernel

/-- The state of V-DELTA-2, with the vector its `MEST` gives. -/
def deltaState : State :=
  (((allOf [0, 1, 2] (flat 48 48 .fullsize (nat 100))).setTriple 3 (flat 48 48 .fullsize (nat 130))
    (flat 48 48 .fullsize (nat 130)) (flat 48 48 .fullsize (nat 130)))).setMvb
      { valid := true, w := 48, h := 48, count := 1, vec := [{ dx := -16, dy := -16 }] }

/-- V-DELTA-2, at the four corners of the searched block's border. -/
theorem test_delta :
    let p := (out (exec (.delta 6 0 3) deltaState)).plane 7
    [p.sample 16 16, p.sample 31 31, p.sample 15 16, p.sample 31 32] = [nat 30, nat 30, nat 130, nat 130] := by
  decide +kernel
/-- spec/43_delta_subsample.md R110: `dx` counts columns and `dy` rows, of the reference. -/
theorem test_delta_direction :
    deltaSample n32 { valid := true, w := 48, h := 48, count := 1, vec := [{ dx := 3, dy := -2 }] }
      (planeOfList 48 48 .fullsize ((List.range 2304).map nat)) (flat 48 48 .fullsize 0) 17 20 =
        neg (18 * 48 + 20) := by decide +kernel

/-- 2.6. -/
theorem test_subs :
    (out (exec (.subs 3 2) (loaded [(2, planeOfList 4 4 .fullsize ((List.range 16).map nat))]))).plane 3 =
      planeOfList 2 2 .downsample ([0, 2, 8, 10].map nat) := by decide +kernel
/-- 2.12: a 3x4 source raises `SHAPE`. -/
theorem test_subs_shape :
    let t := out (exec (.subs 1 0) (loaded [(0, flat 3 4 .fullsize 0)]))
    t.statusWord = 0x00000401 ∧ t.fcmd = 0x00000105 ∧ t.cmdCount = 0 := by decide +kernel

/-- V-DCT-1: the DC, and the source left level-shifted. -/
theorem test_dct_flat :
    let t := out (exec (.dct 1 0) (loaded [(0, flat 8 8 .fullsize (nat 200))]))
    (t.plane 1).sample 0 0 = 0x440FFFFF ∧ (t.plane 1).sample 0 1 = 0x363504F3 ∧ (t.plane 0).nth 63 = 0x42900000 := by
  decide +kernel
/-- V-DCT-3: a horizontal ramp, coefficients `(1, 0)` and `(3, 0)` in row `v = 0`. -/
theorem test_dct_ramp :
    let t := out (exec (.dct 0 0) (loaded [(0, planeOfList 8 8 .downsample
      ((List.range 64).map fun k => nat (128 + 8 * (k % 8))))]))
    [(t.plane 0).sample 1 0, (t.plane 0).sample 3 0] = [0xC311C5EA, 0xC173D114] ∧ (t.plane 0).tag = .downsample := by
  decide +kernel

/-- V-QUANT-5, `Q = 16`. -/
theorem test_quant :
    let src := [0x3F000000, 0xBF000000, 0x3FC00000, 0xBFC00000, 0x40200000, 0xC0200000, 0x3EFFFFFF, 0x80000000]
    let t := out (exec (.quant 1 0) { loaded [(0, planeOfList 8 8 .fullsize (src ++ List.replicate 56 0))] with
      quality := 0x41800000 })
    (t.plane 1).data.take 8 =
      [0x3F800000, 0xBF800000, 0x40000000, 0xC0000000, 0x3F800000, 0xBF800000, 0x00000000, 0x80000000] := by
  decide +kernel
/-- 2.12: `QUALITY` at its reset value raises `CONFIG`, above `UNWRITTEN`. -/
theorem test_quant_config :
    let t := out (exec (.quant 1 0) State.reset)
    t.statusWord = 0x00000501 ∧ t.fcmd = 0x00000107 := by decide +kernel

/-- The example of spec/46_dc_predictor.md R130. -/
def dcSource : Plane := planeOfList 16 24 .fullsize ((List.range 384).map fun k =>
  if k = 0 then nat 10 else if k = 8 then nat 7 else if k = 128 then neg 3 else if k = 136 then nat 4
  else if k = 256 then 0 else if k = 264 then nat 12 else nat 99)

/-- V-DCP-1. -/
theorem test_dcpred :
    (out (exec (.dcpred 3 2) (loaded [(2, dcSource)]))).plane 3 =
      planeOfList 2 3 .dcdiff [nat 10, neg 13, nat 3, nat 7, neg 3, nat 8] := by decide +kernel
/-- V-DCP-1 with `DCD_LAYOUT = spatial`. -/
theorem test_dcpred_spatial :
    let s := loaded [(2, dcSource)]
    ((out (exec (.dcpred 3 2) { s with params := { s.params with dcdLayout := .spatial } })).plane 3).data =
      [nat 10, nat 7, neg 13, neg 3, nat 3, nat 8] := by decide +kernel

/-- V-ZZ-1. -/
theorem test_zigzag :
    (out (exec (.zigzag 4 2) (loaded [(2, planeOfList 8 8 .fullsize ((List.range 64).map nat))]))).plane 4 =
      planeOfList 64 1 .zigzag (defaultZz.map nat) := by decide +kernel
/-- V-ZZ-2: the beginning of both rows. -/
theorem test_zigzag_rows :
    let p := (out (exec (.zigzag 4 2) (loaded [(2, planeOfList 16 8 .fullsize ((List.range 128).map nat))]))).plane 4
    (p.w, p.h) = (64, 2) ∧ (List.range 8).map (fun k => p.sample k 0) = [0, 1, 16, 32, 17, 2, 3, 18].map nat ∧
      (List.range 4).map (fun k => p.sample k 1) = [8, 9, 24, 40].map nat := by decide +kernel

/-- V-TOK-13: two rows. -/
theorem test_tokens :
    (out (exec (.tokens 0 4) (loaded [(4, planeOfList 64 2 .zigzag
        (nat 5 :: List.replicate 63 0 ++ [nat 5, nat 3] ++ List.replicate 62 0))]))).token 0 =
      { valid := true, len := 10, word := [0x4000003F, 0, 0x80000000, 0, 0, 0x40400000, 0x4000003E, 0, 0x80000000, 0] } := by
  decide +kernel
/-- V-TOK-12: a trailing `-0` alone is the literal `+0`. -/
theorem test_tokens_trailing :
    ((out (exec (.tokens 3 4) (loaded [(4, planeOfList 64 1 .zigzag
        (nat 5 :: List.replicate 61 0 ++ [nat 3, 0x80000000]))]))).token 3).word =
      [0x4000003D, 0, 0, 0x40400000, 0, 0, 0x80000000, 0] := by decide +kernel

/-- spec/49_frame_control.md R145: any tag is copied. -/
theorem test_copy :
    let t := out (exec (.copy 31 0) (loaded [(0, flat 2 3 .dcdiff (nat 7))]))
    t.plane 31 = flat 2 3 .dcdiff (nat 7) ∧ t.plane 0 = t.plane 31 := by decide +kernel

/-- 2.12: 4096x4096 is beyond the default `PLANE_CAP`. -/
theorem test_pdef_resource :
    let t := out (exec (.pdef 0 .fullsize) { State.reset with width := 4096, height := 4096 })
    t.statusWord = 0x00000601 ∧ t.fcmd = 0x0000000C ∧ t.plane 0 = Plane.empty := by decide +kernel
/-- 2.12: 2048x2048 fits. -/
theorem test_pdef :
    let t := out (exec (.pdef 0 .fullsize) { State.reset with width := 2048, height := 2048 })
    t.statusWord = 0 ∧ t.cmdCount = 1 ∧ (t.plane 0).infoWord = 1 := by decide +kernel

/-- 2.12: `IFREQ` = 0 raises `CONFIG`. -/
theorem test_frame_config :
    let t := out (exec .frame { frameState 64 64 [0, 1, 2] with ifreq := 0 })
    t.statusWord = 0x00000501 ∧ t.fcmd = 0x0000000D ∧ t.frameIdx = 0 := by decide +kernel
/-- spec/49_frame_control.md R148, R150: the flags after an I-frame and the tags it leaves. -/
theorem test_frame_flags :
    let t := out (exec .frame (frameState 16 16 [0, 1, 2]))
    t.statusWord = 0x00000002 ∧ t.frameIdx = 1 ∧ t.cmdCount = 1 ∧ (t.plane 20).tag = .dcdiff ∧ (t.plane 23).h = 4 := by
  decide +kernel

/-- spec/49_frame_control.md R152. -/
theorem test_endseq :
    let t := out (exec .endseq { allOf [5, 6, 7, 8, 9] (flat 1 1 .fullsize 0) with havePrev := true, frameIdx := 9 })
    t.havePrev = false ∧ t.frameIdx = 0 ∧ t.plane 8 = Plane.empty ∧ t.plane 9 = flat 1 1 .fullsize 0 ∧
      t.plane 5 = flat 1 1 .fullsize 0 := by decide +kernel

/-! ## The window -/

/-- 2.12: a third `PDATA` write to a full 2x1 plane raises `LOAD`. -/
theorem test_pdata_load :
    let s := { loaded [(5, flat 2 1 .fullsize 0)] with psel := 5, host := [.write 0x48 4 0] }
    (out (step s)).statusWord = 0x00000701 ∧ (out (step s)).fcmd = 0 := by decide +kernel
/-- The last sample makes the plane `VALID` (spec/20_memory.md R58). -/
theorem test_pdata_last :
    let s := { loaded [(5, { flat 2 1 .fullsize 0 with state := .loading, fill := 1, data := [nat 1] })] with
      psel := 5, host := [.write 0x48 4 0x40000000] }
    (out (step s)).plane 5 = planeOfList 2 1 .fullsize [nat 1, nat 2] := by decide +kernel
/-- 2.2: the word of the vector `(3, -2)`, read through `MVDATA`. -/
theorem test_mvdata :
    let s := { State.reset with
      mvb := { valid := true, w := 48, h := 48, count := 1, vec := [{ dx := 3, dy := -2 }] }
      host := [.read 0x58 4] }
    (out (step s)).reply = .data 0xFFFE0003 ∧ (out (step s)).mvaddr = 1 := by decide +kernel
/-- spec/20_memory.md R53: a byte read of `PDATA` is a bus error and moves no pointer. -/
theorem test_bus_error :
    out (step (hosted [.read 0x48 1])) = { State.reset with reply := .busError } := by decide +kernel

/-! ## Witnesses: the hypotheses of each obligation are met, clause by clause -/

theorem witness_BothResetsLeaveTheResetState :
    (hosted [.hardReset]).host = .hardReset :: [] ∧
      ((halted [.write 0x08 4 1]).host = .write 0x08 4 1 :: [] ∧ (1 : Word).getLsbD 0 = true) ∧
      ((halted [.write 0x08 4 0xFFFFFFFE]).host = .write 0x08 4 0xFFFFFFFE :: [] ∧
        (0xFFFFFFFE : Word).getLsbD 0 = false) := by decide +kernel

theorem witness_DecodeOfEncodeIsTheCommand : (Instr.delta 29 29 29).wellFormed = true := by decide

theorem witness_DecodedWordIsItsEncoding : decode 0x000CC904 = .ok (.delta 9 6 3) := by decide

/-- A witness for each cause of spec/30_encoding.md R73, at the edge of its range. -/
theorem witness_IllegalWordsFaultAndNoOthers :
    ([0x0000000F, 0x00800000, 0x00000100, 0x00040001, 0x00000103, 0x00001E01, 0x0003C001, 0x0003C003, 0x00780003,
      0x00001E04, 0x0000040A, 0x0000800C].all fun c => isIllegalWord c) = true ∧
    (hosted [.write 0x0C 4 0x0000000F]).fault = false ∧
    (hosted [.write 0x0C 4 0x0000000F]).host = .write 0x0C 4 0x0000000F :: [] := by decide +kernel

theorem witness_StepRunsTheDecodedCommand :
    (hosted [.write 0x0C 4 0x0000000D]).host = .write 0x0C 4 0x0000000D :: [] ∧ decode 0x0000000D = .ok .frame := by
  decide

theorem witness_IdleEngineStaysAsItIs : State.reset.host = [] := by decide

theorem witness_MalformedAccessGetsABusError :
    ((2 : Nat) ≠ 4 ∧ (hosted [.read 0x48 2]).host = .read 0x48 2 :: []) ∧
      (0x0E % 4 ≠ 0 ∧ (hosted [.write 0x0E 4 0]).host = .write 0x0E 4 0 :: []) ∧
      (256 ≤ 0x100 ∧ (hosted [.read 0x100 4]).host = .read 0x100 4 :: []) := by decide

theorem witness_UnmappedAndWrongDirectionAccesses :
    ((0x6C % 4 = 0 ∧ 0x6C < 256 ∧ 0x6C ≤ 0x6C) ∧ (hosted [.read 0x6C 4]).host = .read 0x6C 4 :: []) ∧
      ((0x0C % 4 = 0 ∧ 0x0C < 256 ∧ 0x0C ∈ [0x08, 0x0C]) ∧ (hosted [.read 0x0C 4]).host = .read 0x0C 4 :: []) ∧
      ((0xFC % 4 = 0 ∧ 0xFC < 256 ∧ 0x6C ≤ 0xFC) ∧ (hosted [.write 0xFC 4 1]).host = .write 0xFC 4 1 :: []) ∧
      ((0x68 % 4 = 0 ∧ 0x68 < 256) ∧ (hosted [.write 0x68 4 1]).host = .write 0x68 4 1 :: []) := by decide

/-- Each of the nine offsets can be the one written, on a halted engine too. -/
theorem witness_RegisterWritesChangeThatRegisterOnly :
    ∀ off ∈ [0x10, 0x14, 0x18, 0x1C, 0x34, 0x44, 0x54, 0x5C, 0x64],
      (halted [.write off 4 0xFFFFFFFF]).host = .write off 4 0xFFFFFFFF :: [] := by decide +kernel

theorem witness_RegisterReadsAnswerTheirRegister :
    ∀ off ∈ [0x00, 0x10, 0x14, 0x18, 0x1C, 0x20, 0x24, 0x28, 0x2C, 0x30, 0x34, 0x44, 0x54, 0x5C, 0x64],
      (halted [.read off 4]).host = .read off 4 :: [] := by decide +kernel

/-- Every offset, with the selected plane `EMPTY` and not, and with both buffers valid and not. -/
theorem witness_StatusViewsShowTheirFields :
    (∀ off ∈ [0x04, 0x38, 0x3C, 0x40, 0x4C, 0x50, 0x60],
      (hosted [.read off 4]).host = .read off 4 :: [] ∧ ((hosted [.read off 4]).plane (hosted [.read off 4]).psel).state = .empty) ∧
      (let s := { deltaState.setToken 0 { valid := true, len := 2, word := [0x80000000, 0] } with host := [.read 0x40 4] }
       s.host = .read 0x40 4 :: [] ∧ (s.plane s.psel).state ≠ .empty ∧ s.mvb.valid = true ∧ s.mvb.count < 2 ^ 31 ∧
         (s.token s.tksel).valid = true ∧ (s.token s.tksel).len < 2 ^ 31) := by decide +kernel

theorem witness_OtherReadsHaveNoSideEffect :
    ((hosted [.read 0x04 4]).host = .read 0x04 4 :: [] ∧ 0x04 ∉ [0x48, 0x58, 0x68]) ∧
      ((hosted [.read 0x49 1]).host = .read 0x49 1 :: [] ∧ 0x49 ∉ [0x48, 0x58, 0x68]) := by decide

/-- A 2x1 plane just defined by `PDEF`, selected. -/
def loadingState (es : List HostEvent) : State :=
  { (hosted es).setPlane 0 { state := .loading, w := 2, h := 1, tag := .fullsize, fill := 0, data := [] } with psel := 0 }

theorem witness_PdataWriteLoadsOneSample :
    ((halted [.write 0x48 4 5]).host = .write 0x48 4 5 :: [] ∧ (halted [.write 0x48 4 5]).fault = true) ∧
      (let s := hosted [.write 0x48 4 5]
       s.host = .write 0x48 4 5 :: [] ∧ s.fault = false ∧ (s.plane s.psel).state ≠ .loading) ∧
      (let s := loadingState [.write 0x48 4 5]
       s.host = .write 0x48 4 5 :: [] ∧ s.fault = false ∧ (s.plane s.psel).state = .loading) := by decide +kernel

theorem witness_PlaneLoadProtocolCompletes :
    let vs : List Word := [0x3F800000, 0x40000000]
    let s := loadingState (vs.map fun v => .write 0x48 4 v)
    s.fault = false ∧ (s.plane s.psel).state = .loading ∧ (s.plane s.psel).fill = 0 ∧ (s.plane s.psel).data = [] ∧
      0 < vs.length ∧ vs.length = (s.plane s.psel).w * (s.plane s.psel).h ∧
      s.host = vs.map (fun v => .write 0x48 4 v) := by decide +kernel

/-- The last sample in range, the first index out of range, and a plane that is not `VALID`. -/
theorem witness_PdataReadReturnsSampleAndAdvances :
    (let s := { loaded [(0, flat 2 3 .fullsize 0)] with host := [.read 0x48 4], paddr := 5 }
     s.host = .read 0x48 4 :: [] ∧ (s.plane s.psel).state = .valid ∧ s.paddr.toNat < (s.plane s.psel).w * (s.plane s.psel).h) ∧
      (let s := { loaded [(0, flat 2 3 .fullsize 0)] with host := [.read 0x48 4], paddr := 6 }
       ¬((s.plane s.psel).state = .valid ∧ s.paddr.toNat < (s.plane s.psel).w * (s.plane s.psel).h)) ∧
      (let s := hosted [.read 0x48 4]
       ¬((s.plane s.psel).state = .valid ∧ s.paddr.toNat < (s.plane s.psel).w * (s.plane s.psel).h)) := by decide +kernel

theorem witness_MvdataReadReturnsVectorAndAdvances :
    (let s := { deltaState with host := [.read 0x58 4] }
     s.host = .read 0x58 4 :: [] ∧ s.mvb.wf ∧ s.mvb.valid = true ∧
       s.mvb.vec[s.mvaddr.toNat]? = some { dx := -16, dy := -16 }) ∧
      (let s := { deltaState with host := [.read 0x58 4], mvaddr := 1 }
       s.host = .read 0x58 4 :: [] ∧ s.mvb.wf ∧ ¬(s.mvb.valid = true ∧ s.mvaddr.toNat < s.mvb.count)) := by
  decide +kernel

/-- A state with the one-block stream `Z63 ;` in the selected token register. -/
def tokenState (addr : Word) : State :=
  { (hosted [.read 0x68 4]).setToken 0 { valid := true, len := 4, word := [0x4000003F, 0, 0x80000000, 0] } with
    tkaddr := addr }

theorem witness_TkdataReadReturnsWordAndAdvances :
    (let s := tokenState 3
     let b := s.token s.tksel
     s.host = .read 0x68 4 :: [] ∧ b.word.length = b.len ∧ b.valid = true ∧ b.word[s.tkaddr.toNat]? = some 0) ∧
      (let s := tokenState 4
       let b := s.token s.tksel
       s.host = .read 0x68 4 :: [] ∧ b.word.length = b.len ∧ ¬(b.valid = true ∧ s.tkaddr.toNat < b.len)) := by
  decide +kernel

theorem witness_HaltedEngineIgnoresCommandsAndLoads :
    ((halted [.write 0x0C 4 0x0000000D]).fault = true ∧
      (halted [.write 0x0C 4 0x0000000D]).host = .write 0x0C 4 0x0000000D :: []) ∧
      (halted [.write 0x48 4 0]).host = .write 0x48 4 0 :: [] := by decide +kernel

theorem witness_CommandFaultsPreciselyOrCompletes : State.reset.fault = false := by decide

theorem witness_IllFormedTripleRaisesIllegal :
    State.reset.fault = false ∧ (Instr.csc 30 0).wellFormed = false := by decide

theorem witness_FaultStaysUntilReset :
    let s := halted [.write 0x0C 4 0]
    s.fault = true ∧ (∃ t, step s = .next t) ∧ s.host.head? ≠ some .hardReset ∧ (∀ v, s.host.head? ≠ some (.write 0x08 4 v)) := by
  refine ⟨by decide +kernel, ⟨_, rfl⟩, by decide +kernel, ?_⟩
  intro v h
  simp [halted, hosted, State.raiseFault] at h

theorem witness_NopCountsOnly : State.reset.fault = false ∧ (halted []).fault = true := by decide

theorem witness_CopyMakesAnEqualPlane :
    (State.reset.fault = false ∧ (State.reset.plane 0).state ≠ .valid) ∧
      (let s := loaded [(0, flat 2 3 .dcdiff 0)]
       s.fault = false ∧ (s.plane 0).state = .valid ∧ (s.plane 0).fill = (s.plane 0).w * (s.plane 0).h) := by
  decide +kernel

/-- No dimension; one sample more than `PLANE_CAP`; exactly `PLANE_CAP`. -/
theorem witness_PdefStartsALoad :
    (State.reset.fault = false ∧ State.reset.width = 0) ∧
      (let s := { State.reset with width := 4194305, height := 1 }
       s.fault = false ∧ s.width ≠ 0 ∧ s.height ≠ 0 ∧ s.params.planeCap < s.width.toNat * s.height.toNat) ∧
      (let s := { State.reset with width := 4194304, height := 1 }
       s.fault = false ∧ s.width ≠ 0 ∧ s.height ≠ 0 ∧ s.width.toNat * s.height.toNat ≤ s.params.planeCap) := by
  decide +kernel

theorem witness_EndseqFreesThePreviousFrame : (allOf [6, 7, 8] (flat 1 1 .fullsize 0)).fault = false := by decide +kernel

/-- One `EMPTY` source; one of another tag; one of another size; three alike. -/
theorem witness_CscConvertsEachPixel :
    (29 : PlaneReg).val ≤ 29 ∧ (0 : PlaneReg).val ≤ 29 ∧
      (let s := allOf [0, 1] (flat 2 2 .fullsize 0)
       s.fault = false ∧ ¬allValidAt s (tripleAt 0)) ∧
      (let s := loaded [(0, flat 2 2 .fullsize 0), (1, flat 2 2 .fullsize 0), (2, flat 1 1 .downsample 0)]
       s.fault = false ∧ allValidAt s (tripleAt 0) ∧ ¬allTaggedAt s [.fullsize] (tripleAt 0)) ∧
      (let s := loaded [(0, flat 2 2 .fullsize 0), (1, flat 2 2 .fullsize 0), (2, flat 2 1 .fullsize 0)]
       s.fault = false ∧ allValidAt s (tripleAt 0) ∧ allTaggedAt s [.fullsize] (tripleAt 0) ∧
         ¬allSizedAt s (s.plane 0).w (s.plane 0).h (tripleAt 0)) ∧
      (let s := allOf [0, 1, 2] (flat 2 2 .fullsize 0)
       s.fault = false ∧ allValidAt s (tripleAt 0) ∧ allTaggedAt s [.fullsize] (tripleAt 0) ∧
         allSizedAt s (s.plane 0).w (s.plane 0).h (tripleAt 0)) := by decide +kernel

theorem witness_LpfSmoothsInTwoPasses :
    (State.reset.plane 0).state ≠ .valid ∧
      (let s := loaded [(0, flat 2 2 .downsample 0)]
       s.fault = false ∧ (s.plane 0).state = .valid ∧ (s.plane 0).tag ≠ .fullsize) ∧
      (let s := loaded [(0, lpfSource)]
       s.fault = false ∧ (s.plane 0).state = .valid ∧ (s.plane 0).tag = .fullsize) := by decide +kernel

/-- V-LPF-4: a plane of 7s, and one of zeros. -/
theorem witness_LpfKeepsAConstantPlane :
    ([0x40E00000, 0x80000000].all fun c =>
      let s := loaded [(0, flat 4 3 .fullsize c)]
      let f := s.params.format
      s.fault = false ∧ (s.plane 0).state = .valid ∧ (s.plane 0).tag = .fullsize ∧ isFinite f c = true ∧
        (fmag f c = 0 ∨ 3 * 2 ^ f.fracBits ≤ fmag f c) ∧ ∀ k < (s.plane 0).w * (s.plane 0).h, (s.plane 0).nth k = c) = true := by
  decide +kernel

/-- Six equal 48x48 planes: one searched block. -/
def mestState (v : Sample) : State := allOf [0, 1, 2, 3, 4, 5] (flat 48 48 .fullsize v)

theorem witness_MestFillsTheVectorBuffer :
    (3 : PlaneReg).val ≤ 29 ∧
      (State.reset.fault = false ∧ ¬allValidAt State.reset (bothTriples 0 3)) ∧
      (let s := allOf [0, 1, 2, 3, 4, 5] (flat 48 48 .downsample 0)
       s.fault = false ∧ allValidAt s (bothTriples 0 3) ∧ ¬allTaggedAt s [.fullsize] (bothTriples 0 3)) ∧
      (let s := (mestState 0).setPlane 5 (flat 64 48 .fullsize 0)
       s.fault = false ∧ allValidAt s (bothTriples 0 3) ∧ allTaggedAt s [.fullsize] (bothTriples 0 3) ∧
         ¬allSizedAt s (s.plane 0).w (s.plane 0).h (bothTriples 0 3)) ∧
      (let s := mestState 0
       s.fault = false ∧ allValidAt s (bothTriples 0 3) ∧ allTaggedAt s [.fullsize] (bothTriples 0 3) ∧
         allSizedAt s (s.plane 0).w (s.plane 0).h (bothTriples 0 3)) := by decide +kernel

/-- Every sample of a flat plane inside it is its value. -/
theorem nth_flat {w h k : Nat} {tag : Tag} {v : Sample} (hk : k < w * h) : (flat w h tag v).nth k = v := by
  simp [flat, planeOfList, Plane.nth, List.getD, hk]

/-- The planes of `mestState v` are flat. -/
theorem plane_mestState {k : Nat} (v : Sample) (hk : k < 6) : (mestState v).plane k = flat 48 48 .fullsize v := by
  have h : k = 0 ∨ k = 1 ∨ k = 2 ∨ k = 3 ∨ k = 4 ∨ k = 5 := by omega
  rcases h with rfl | rfl | rfl | rfl | rfl | rfl <;> rfl

/-- Every sample of a plane of zeros, inside it or not, is a zero. -/
theorem sample_flat_zero (w h x y : Nat) (tag : Tag) : (flat w h tag 0).sample x y = 0 := by
  simp only [flat, planeOfList, Plane.sample, List.getD, List.getElem?_replicate]
  split <;> rfl

/-- A fold whose every step keeps the zero. -/
theorem foldl_zero {g : Sample → Nat → Sample} {l : List Nat} (h : ∀ k ∈ l, g 0 k = 0) : l.foldl g 0 = 0 := by
  induction l with
  | nil => rfl
  | cons k l ih => rw [List.foldl_cons, h k (by simp)]; exact ih fun j hj => h j (by simp [hj])

/-- The sum over a block of zeros against a block of zeros. -/
theorem sad_zero {tgt ref : Plane} {mx my sx sy : Nat}
    (h : ∀ i < 16, ∀ j < 16, tgt.sample (mx + i) (my + j) = 0 ∧ ref.sample (sx + i) (sy + j) = 0) :
    sad n32 tgt ref mx my sx sy = 0 :=
  foldl_zero fun j hj => foldl_zero fun i hi => by
    obtain ⟨ht, hr⟩ := h i (by simpa using hi) j (by simpa using hj)
    rw [ht, hr]; decide +kernel

theorem isNaN_fadd {a b : Sample} (h : isNaN .binary32 a = true ∨ isNaN .binary32 b = true) :
    isNaN .binary32 (fadd n32 a b) = true := by
  rw [fadd, if_pos (by rcases h with h | h <;> simp [n32, h])]; exact isNaN_drawNaN n32 _ _ _

theorem isNaN_fmul {a b : Sample} (h : isNaN .binary32 b = true) : isNaN .binary32 (fmul n32 a b) = true := by
  rw [fmul, if_pos (by simp [n32, h])]; exact isNaN_drawNaN n32 _ _ _

/-- The sum of a block whose last term is made of a NaN. -/
theorem sad_nan {tgt ref : Plane} {mx my sx sy : Nat}
    (h : isNaN .binary32 (tgt.sample (mx + 15) (my + 15)) = true ∨
      isNaN .binary32 (ref.sample (sx + 15) (sy + 15)) = true) :
    isNaN .binary32 (sad n32 tgt ref mx my sx sy) = true := by
  simp only [sad, List.range_succ (n := 15), List.foldl_append, List.foldl_cons, List.foldl_nil]
  refine isNaN_fadd (.inr (isNaN_fabs (fsub_lt n32 _ _) ?_))
  rw [fsub, if_pos (by rcases h with h | h <;> simp [n32, h])]; exact isNaN_drawNaN n32 _ _ _

/-- A cost whose luma sum is a NaN, and one whose sums are zeros, the state being in binary32 with no draw taken. -/
theorem cost_nan {s : State} {a b i j : Nat} (hn : s.arith = n32)
    (h : isNaN .binary32 (sad n32 (s.plane (b + 0)) (s.plane (a + 0)) 16 16 i j) = true) :
    isNaN .binary32 (cost s a b 0 0 i j) = true := by
  simp only [cost, hn, Nat.mul_zero, Nat.add_zero, Nat.zero_add] at h ⊢
  exact isNaN_fadd (.inl (isNaN_fadd (.inl (isNaN_fmul h))))

theorem cost_zero {s : State} {a b : Nat} (hn : s.arith = n32)
    (h : ∀ c < 3, sad n32 (s.plane (b + c)) (s.plane (a + c)) 16 16 0 0 = 0) :
    isNaN .binary32 (cost s a b 0 0 0 0) = false := by
  have h0 := h 0 (by omega)
  simp only [Nat.add_zero] at h0
  simp only [cost, hn, Nat.mul_zero, Nat.add_zero, h0, h 1 (by omega), h 2 (by omega)]
  decide +kernel

/-- Clause 1, with either tie rule: on frames of zeros the first candidate's cost is no NaN, and there is a searched block. -/
theorem witness_MestPicksTheFirstLeastCost_number (tie : MestTie) :
    let s := { mestState 0 with params := { defaultParams with mestTie := tie } }
    (s.fault = false ∧ allValidAt s (bothTriples 0 3) ∧ allTaggedAt s [.fullsize] (bothTriples 0 3) ∧
      allSizedAt s (s.plane 0).w (s.plane 0).h (bothTriples 0 3) ∧
      0 < ((s.plane 0).w - 32) / 16 ∧ 0 < ((s.plane 0).h - 32) / 16) ∧
      isNaN s.params.format (cost s 0 3 0 0 0 0) = false := by
  have hz : ∀ k < 6, ∀ x y, ((mestState 0).plane k).sample x y = 0 := fun k hk x y => by
    rw [plane_mestState _ hk]; exact sample_flat_zero 48 48 x y _
  exact ⟨by cases tie <;> decide +kernel, cost_zero rfl fun c _ => sad_zero fun i _ j _ =>
    ⟨hz (3 + c) (by omega) _ _, hz (0 + c) (by omega) _ _⟩⟩

/-- Frames of zeros but for one NaN in the reference, which candidate `(31, 31)` reads and the first does not. -/
def mestOneNaN : State :=
  (mestState 0).setPlane 0 (planeOfList 48 48 .fullsize (List.replicate 2254 0 ++ 0x7FC00000 :: List.replicate 49 0))

/-- Clause 1 with a later cost that is a NaN (spec/42_motion_estimator.md R103). -/
theorem witness_MestPicksTheFirstLeastCost_laterNaN :
    (allValidAt mestOneNaN (bothTriples 0 3) ∧ allTaggedAt mestOneNaN [.fullsize] (bothTriples 0 3) ∧
      allSizedAt mestOneNaN 48 48 (bothTriples 0 3)) ∧
      isNaN .binary32 (cost mestOneNaN 0 3 0 0 0 0) = false ∧ isNaN .binary32 (cost mestOneNaN 0 3 0 0 31 31) = true := by
  refine ⟨by decide +kernel, cost_zero rfl fun c hc => sad_zero fun i hi j hj => ⟨?_, ?_⟩,
    cost_nan rfl (sad_nan (.inr (by decide +kernel)))⟩
  · have e : mestOneNaN.plane (3 + c) = flat 48 48 .fullsize 0 := by
      rcases c with _ | _ | _ | c
      all_goals first | rfl | omega
    rw [e]; exact sample_flat_zero ..
  · rcases c with _ | _ | _ | c
    · revert i j; decide +kernel
    · exact sample_flat_zero 48 48 _ _ .fullsize
    · exact sample_flat_zero 48 48 _ _ .fullsize
    · omega

/-- Clause 2: on frames of a NaN the first candidate's cost is a NaN. -/
theorem witness_MestPicksTheFirstLeastCost_nan :
    isNaN (mestState 0x7FC00000).params.format (cost (mestState 0x7FC00000) 0 3 0 0 0 0) = true :=
  cost_nan rfl (sad_nan (.inl (by decide +kernel)))

theorem witness_MestOnFlatFramesGivesTheEarliest :
    let s := mestState 0x42C80000
    s.params.mestTie = .first ∧ allValidAt s (bothTriples 0 3) ∧ allTaggedAt s [.fullsize] (bothTriples 0 3) ∧
      allSizedAt s (s.plane 0).w (s.plane 0).h (bothTriples 0 3) ∧
      ∀ c < 3, isFinite s.params.format 0x42C80000 = true ∧ ∀ k < (s.plane 0).w * (s.plane 0).h,
        (s.plane (0 + c)).nth k = 0x42C80000 ∧ (s.plane (3 + c)).nth k = 0x42C80000 := by
  refine ⟨by decide +kernel, by decide +kernel, by decide +kernel, by decide +kernel, fun c hc =>
    ⟨by decide +kernel, fun k hk => ?_⟩⟩
  rw [plane_mestState _ (by omega), plane_mestState _ (by omega)]
  exact ⟨nth_flat hk, nth_flat hk⟩

/-- No vectors; another tag; vectors of another size; and V-DELTA-2, with a vector for its block. -/
theorem witness_DeltaSubtractsTheDisplacedReference :
    (6 : PlaneReg).val ≤ 29 ∧
      (let s := mestState 0
       s.fault = false ∧ ¬(allValidAt s (bothTriples 0 3) ∧ s.mvb.valid = true)) ∧
      (let s := deltaState.setPlane 4 (flat 48 48 .downsample 0)
       s.fault = false ∧ allValidAt s (bothTriples 0 3) ∧ s.mvb.valid = true ∧
         ¬allTaggedAt s [.fullsize] (bothTriples 0 3)) ∧
      (let s := deltaState.setMvb { deltaState.mvb with w := 64 }
       s.fault = false ∧ allValidAt s (bothTriples 0 3) ∧ s.mvb.valid = true ∧
         allTaggedAt s [.fullsize] (bothTriples 0 3) ∧ allSizedAt s (s.plane 0).w (s.plane 0).h (bothTriples 0 3) ∧
         s.mvb.w ≠ (s.plane 0).w) ∧
      (let s := deltaState
       s.fault = false ∧ allValidAt s (bothTriples 0 3) ∧ s.mvb.valid = true ∧
         allTaggedAt s [.fullsize] (bothTriples 0 3) ∧ allSizedAt s (s.plane 0).w (s.plane 0).h (bothTriples 0 3) ∧
         s.mvb.w = (s.plane 0).w ∧ s.mvb.h = (s.plane 0).h ∧ s.mvb.vec[0]? = some { dx := -16, dy := -16 }) := by
  decide +kernel

theorem witness_SubsTakesEvenSamples :
    (State.reset.plane 2).state ≠ .valid ∧
      (let s := loaded [(2, flat 4 4 .downsample 0)]
       s.fault = false ∧ (s.plane 2).state = .valid ∧ (s.plane 2).tag ≠ .fullsize) ∧
      (let s := loaded [(2, flat 3 4 .fullsize 0)]
       s.fault = false ∧ (s.plane 2).state = .valid ∧ (s.plane 2).tag = .fullsize ∧ ¬blocked 2 (s.plane 2)) ∧
      (let s := loaded [(2, flat 2 2 .fullsize 0)]
       s.fault = false ∧ (s.plane 2).state = .valid ∧ (s.plane 2).tag = .fullsize ∧ blocked 2 (s.plane 2)) := by
  decide +kernel

/-- The four clauses, which are those of `DCPRED` and `ZIGZAG` too, and a destination other than the source. -/
theorem witness_DctShiftsAndTransforms :
    (1 : PlaneReg) ≠ 0 ∧
    ((State.reset.plane 0).state ≠ .valid) ∧
      (let s := loaded [(0, flat 8 8 .zigzag 0)]
       s.fault = false ∧ (s.plane 0).state = .valid ∧ (s.plane 0).tag ∉ [Tag.fullsize, .downsample]) ∧
      (let s := loaded [(0, flat 8 12 .downsample 0)]
       s.fault = false ∧ (s.plane 0).state = .valid ∧ (s.plane 0).tag ∈ [Tag.fullsize, .downsample] ∧
         ¬blocked 8 (s.plane 0)) ∧
      (let s := loaded [(0, flat 8 8 .downsample 0)]
       s.fault = false ∧ (s.plane 0).state = .valid ∧ (s.plane 0).tag ∈ [Tag.fullsize, .downsample] ∧
         blocked 8 (s.plane 0)) := by decide +kernel

theorem witness_DctOfMidGreyIsAllPlusZero :
    let s := loaded [(0, flat 8 8 .fullsize 0x43000000)]
    s.fault = false ∧ s.params.cos = defaultCos s.params.format ∧ s.params.cn = defaultCn s.params.format ∧ (s.plane 0).state = .valid ∧
      (s.plane 0).tag ∈ [Tag.fullsize, .downsample] ∧ blocked 8 (s.plane 0) ∧
      ∀ k < (s.plane 0).w * (s.plane 0).h, (s.plane 0).nth k = c128 s.params.format := by decide +kernel

/-- The reset quality, and every other clause with the least or the largest legal one. -/
theorem witness_QuantDividesByTheEffectiveStep :
    (State.reset.fault = false ∧ ¬qualityLegal State.reset.quality) ∧
      ¬qualityLegal 0x7F800000 ∧ ¬qualityLegal 0x80000000 ∧
      (let s := { State.reset with quality := 0x00000001 }
       qualityLegal s.quality ∧ (s.plane 0).state ≠ .valid) ∧
      (let s := { loaded [(0, flat 8 8 .zigzag 0)] with quality := 0x7F7FFFFF }
       qualityLegal s.quality ∧ (s.plane 0).state = .valid ∧ (s.plane 0).tag ∉ [Tag.fullsize, .downsample]) ∧
      (let s := { loaded [(0, flat 12 8 .fullsize 0)] with quality := 0x7F7FFFFF }
       qualityLegal s.quality ∧ (s.plane 0).state = .valid ∧ (s.plane 0).tag ∈ [Tag.fullsize, .downsample] ∧
         ¬blocked 8 (s.plane 0)) ∧
      (let s := { loaded [(0, flat 8 8 .fullsize 0)] with quality := 0x7F7FFFFF }
       s.fault = false ∧ qualityLegal s.quality ∧ (s.plane 0).state = .valid ∧
         (s.plane 0).tag ∈ [Tag.fullsize, .downsample] ∧ blocked 8 (s.plane 0)) := by decide +kernel

theorem witness_QuantStepIsAtLeastOne :
    ([n32, n64].all fun n => (paramsOf n.format).qmat = defaultQmat n.format) = true ∧ qualityLegal 0x7F7FFFFF ∧ 7 < 8 := by
  decide +kernel

/-- Two columns of three blocks, so both branches of the traversal's step; the checks: `witness_DctShiftsAndTransforms`. -/
theorem witness_DcpredDifferencesColumnMajor :
    let s := loaded [(2, dcSource)]
    s.fault = false ∧ (s.plane 2).state = .valid ∧ (s.plane 2).tag ∈ [Tag.fullsize, .downsample] ∧
      blocked 8 (s.plane 2) ∧ 1 < (s.plane 2).w / 8 ∧ 2 < (s.plane 2).h / 8 := by decide +kernel

/-- The checks: `witness_DctShiftsAndTransforms`. -/
theorem witness_ZigzagPermutesEachBlock :
    let s := loaded [(2, flat 16 8 .downsample 0)]
    s.fault = false ∧ (s.plane 2).state = .valid ∧ (s.plane 2).tag ∈ [Tag.fullsize, .downsample] ∧
      blocked 8 (s.plane 2) := by decide +kernel

theorem witness_ZigzagLosesNoCoefficient :
    let s := loaded [(2, flat 16 8 .downsample 0)]
    s.fault = false ∧ s.params.wf ∧ (s.plane 2).state = .valid ∧ (s.plane 2).tag ∈ [Tag.fullsize, .downsample] ∧
      blocked 8 (s.plane 2) := by decide +kernel

theorem witness_TokensEncodesEachRow :
    (State.reset.plane 4).state ≠ .valid ∧
      (let s := loaded [(4, flat 8 8 .fullsize 0)]
       s.fault = false ∧ (s.plane 4).state = .valid ∧ (s.plane 4).tag ≠ .zigzag) ∧
      (let s := loaded [(4, flat 8 8 .zigzag 0)]
       s.fault = false ∧ (s.plane 4).state = .valid ∧ (s.plane 4).tag = .zigzag ∧ (s.plane 4).w ≠ 64) ∧
      (let s := loaded [(4, flat 64 2 .zigzag 0)]
       s.fault = false ∧ (s.plane 4).state = .valid ∧ (s.plane 4).tag = .zigzag ∧ (s.plane 4).w = 64) := by
  decide +kernel

theorem witness_TokenStreamLengthIsBounded :
    let s := loaded [(4, flat 64 2 .zigzag 0)]
    s.fault = false ∧ (s.plane 4).state = .valid ∧ (s.plane 4).tag = .zigzag ∧ (s.plane 4).w = 64 ∧
      ∃ t, exec (.tokens 1 4) s = .next t := ⟨by decide +kernel, by decide +kernel, by decide +kernel, by decide +kernel, _, rfl⟩

/-- A row of 63 zeros of both signs, and one of 63 ones. -/
theorem witness_TokensOfZeroAndOfFullBlocks :
    (∀ k < 64, 1 ≤ k → feq .binary32 ((planeOfList 64 1 .zigzag (List.replicate 32 0 ++ List.replicate 32 0x80000000)).sample k 0) 0 = true) ∧
      (∀ k < 64, 1 ≤ k → feq .binary32 ((flat 64 1 .zigzag 0x3F800000).sample k 0) 0 = false) := by decide +kernel

/-- `IFREQ` 0, and a width that is not a multiple of 16. -/
theorem witness_FrameChecksInOrder_config :
    (let s := { frameState 16 16 [0, 1, 2] with ifreq := 0 }
     s.fault = false ∧ ¬frameConfigured s) ∧ ¬frameConfigured (frameState 24 16 [0, 1, 2]) := by decide +kernel

/-- A source that is `EMPTY`, and a P-frame without a previous frame. -/
theorem witness_FrameChecksInOrder_loaded :
    (let s := frameState 16 16 [0, 1]
     s.fault = false ∧ frameConfigured s ∧ ¬frameLoaded s) ∧
      (let s := { frameState 16 16 [0, 1, 2, 6, 7, 8] with frameIdx := 1 }
       frameConfigured s ∧ pType s ∧ ¬frameLoaded s) := by decide +kernel

/-- A source of another tag, and one of another size. -/
theorem witness_FrameChecksInOrder_planes :
    (let s := (frameState 16 16 [0, 1, 2]).setPlane 1 (flat 16 16 .downsample 0)
     s.fault = false ∧ frameConfigured s ∧ frameLoaded s ∧ ¬frameTagged s) ∧
      (let s := (frameState 16 16 [0, 1, 2]).setPlane 1 (flat 16 32 .fullsize 0)
       s.fault = false ∧ frameConfigured s ∧ frameLoaded s ∧ frameTagged s ∧ ¬frameSized s) := by decide +kernel

/-- An I-frame and a P-frame of one macroblock. -/
theorem witness_FrameCompletesAndFillsItsRegisters :
    (let s := frameState 16 16 [0, 1, 2]
     s.fault = false ∧ frameReady s ∧ ¬pType s) ∧
      (let s := { frameState 16 16 [0, 1, 2, 6, 7, 8] with frameIdx := 1, havePrev := true }
       s.fault = false ∧ frameReady s ∧ pType s) := by decide +kernel

theorem witness_FrameIsTheSequenceOfItsStages :
    (let s := frameState 16 16 [0, 1, 2]
     s.fault = false ∧ frameReady s) ∧
      (let s := { frameState 48 48 [0, 1, 2, 6, 7, 8] with frameIdx := 1, havePrev := true }
       s.fault = false ∧ frameReady s) := by decide +kernel

/-- A state of a run: a plane loaded, a fault taken. -/
theorem witness_EveryStepKeepsTheInvariant :
    (let s := { loaded [(4, flat 2 2 .fullsize 0)] with host := [.write 0x0C 4 0x0000000F] }
     s.wf ∧ ∃ t, step s = .next t) ∧ (halted [.write 0x08 4 1]).wf :=
  ⟨⟨by decide +kernel, _, rfl⟩, by decide +kernel⟩

theorem witness_NoStepChangesTheParameters : ∃ t, step (hosted [.write 0x08 4 1]) = .next t := ⟨_, rfl⟩

theorem witness_NoCommandWritesHostRegisters : ∃ t, exec .frame (frameState 16 16 [0, 1, 2]) = .next t := ⟨_, rfl⟩

theorem witness_OnlyTheNamedCommandsChangeSequenceState :
    ∃ t, exec (.lpf 2 1) (loaded [(1, lpfSource)]) = .next t := ⟨_, rfl⟩

/-- Finite values at the ends of the range, sums that overflow to either side (the largest value and itself, in both
formats), and exact zero sums, one of negative zeros. -/
theorem witness_AddAndSubAreCorrectlyRounded :
    ([0x7F7FFFFF, 0xFF7FFFFF, 0x00000001, 0x80000000].all fun a => isFinite .binary32 a) = true ∧
      overflowBound .binary32 * 1 ≤ (sunits .binary32 0x7F7FFFFF + sunits .binary32 0x7F7FFFFF).natAbs ∧
      overflowBound .binary32 * 1 ≤ (sunits .binary32 0xFF7FFFFF - sunits .binary32 0x7F7FFFFF).natAbs ∧
      ([0x7FEFFFFFFFFFFFFF, 0xFFEFFFFFFFFFFFFF].all fun a =>
        isFinite .binary64 a ∧ overflowBound .binary64 * 1 ≤ (sunits .binary64 a + sunits .binary64 a).natAbs) = true ∧
      sunits .binary32 0x80000000 + sunits .binary32 0x80000000 = 0 ∧
      sunits .binary32 0x3F800000 - sunits .binary32 0x3F800000 = 0 := by decide +kernel

/-- What such sums are: infinities of the sign of the exact sum. -/
theorem test_fadd_overflow :
    fadd n32 0x7F7FFFFF 0x7F7FFFFF = 0x7F800000 ∧ fsub n32 0xFF7FFFFF 0x7F7FFFFF = 0xFF800000 ∧
      fadd n64 0xFFEFFFFFFFFFFFFF 0xFFEFFFFFFFFFFFFF = 0xFFF0000000000000 := by decide +kernel

/-- Finite operands, a divisor that is not zero, a zero divisor under a value that is not zero and under a zero, and a
product that overflows. -/
theorem witness_MulAndDivAreCorrectlyRounded :
    ([0x7F7FFFFF, 0x80000001, 0x80000000, 0].all fun a => isFinite .binary32 a) = true ∧
      sunits .binary32 0x80000001 ≠ 0 ∧ sunits .binary32 0x80000000 = 0 ∧ sunits .binary32 0 = 0 ∧
      overflowBound .binary32 * SampleFormat.unitsOne .binary32 ≤
        (sunits .binary32 0x7F7FFFFF * sunits .binary32 0x7F7FFFFF).natAbs := by decide +kernel

/-- A tie of either sign, the least value that rounding leaves as it is, and both infinities. -/
theorem witness_RoundTiesAwayIsNearestIntegral :
    ([0x3F000000, 0xBF000000, 0x4B000000].all fun a => isFinite .binary32 a) = true ∧
      2 * units .binary32 0x3F000000 = SampleFormat.unitsOne .binary32 ∧
      2 ^ 23 * SampleFormat.unitsOne .binary32 ≤ units .binary32 0x4B000000 ∧
      isInf .binary32 0x7F800000 = true ∧ isInf .binary64 0xFFF0000000000000 = true := by decide +kernel

/-- spec/00_scope.md R11 with `ROUND_TIES = even`: 0.5, 1.5, 2.5, -2.5 and an infinity. -/
theorem test_fround_even :
    [0x3F000000, 0x3FC00000, 0x40200000, 0xC0200000, 0xFF800000].map (fround n32 .even) =
      [0, 0x40000000, 0x40000000, 0xC0000000, 0xFF800000] := by decide +kernel

theorem witness_CeilIsLeastIntegralNotBelow :
    isFinite .binary32 0xBE99999A = true ∧ isFinite .binary32 0x3F800001 = true ∧ isInf .binary32 0xFF800000 = true := by
  decide +kernel

/-- A NaN operand, and a NaN made of two infinities. -/
theorem witness_NaNsPropagateAndAreQuiet :
    isNaN .binary32 0x7FC00000 = true ∧ isNaN .binary32 0xFF800001 = true ∧
      isNaN .binary32 (fsub n32 0x7F800000 0x7F800000) = true :=
  ⟨by decide +kernel, by decide +kernel, isNaN_drawNaN n32 _ _ _⟩

theorem witness_ComparisonsAreOfValues :
    isNaN .binary32 0x7F800001 = true ∧ isFinite .binary32 0x80000000 = true ∧ isFinite .binary64 0x7FEFFFFFFFFFFFFF = true := by
  decide +kernel

/-! ## `F` = binary64 (spec/00_scope.md R5, R8) -/

/-- The binary64 parameters have the shape the spec asks for, and their tables are the binary32 ones but for the rounding. -/
theorem test_binary64_params :
    (paramsOf .binary64).wf ∧ cos64.map nearest32 = cos32.map (BitVec.setWidth 32) ∧
      (defaultQmat .binary64).map nearest32 = (defaultQmat .binary32).map (BitVec.setWidth 32) := by decide +kernel

/-- `fbits(ffrom(w)) = w` on a normal, a subnormal, both zeros, an infinity and a quiet and a signalling NaN (spec/00_scope.md
R9); 1, 2^-149 and the NaN as they stand in binary64. -/
theorem test_binary64_words :
    ([0x3F800000, 0x00000001, 0x807FFFFF, 0, 0x80000000, 0xFF800000, 0x7FC00000, 0xFF800001].all fun w =>
      fbits .binary64 (ffrom .binary64 w) = w) = true ∧
      [0x3F800000, 0x00000001, 0x7FC00000].map (ffrom .binary64) =
        [0x3FF0000000000000, 0x36A0000000000000, 0x7FF8000000000000] := by decide +kernel

/-- 0.1 + 0.2, 1/3 and 0.1 * 0.1 in binary64. -/
theorem test_binary64_arithmetic :
    fadd n64 0x3FB999999999999A 0x3FC999999999999A = 0x3FD3333333333334 ∧
      fdiv n64 0x3FF0000000000000 0x4008000000000000 = 0x3FD5555555555555 ∧
      fmul n64 0x3FB999999999999A 0x3FB999999999999A = 0x3F847AE147AE147C := by decide +kernel

end Sys2Proof.Tests
end

section
/-! SUPPORT. The values of magnitude patterns, and rounding to the nearest of them. -/

namespace Sys2Proof

open Machine Claims

/-! ## Constants of a format as powers of two -/

/-- `unitsOne` is `2^oneExp`. -/
def SampleFormat.oneExp : SampleFormat → Nat
  | .binary32 => 149
  | .binary64 => 1074

/-- The spacing of the largest finite values is `2^topExp` units. -/
def SampleFormat.topExp : SampleFormat → Nat
  | .binary32 => 253
  | .binary64 => 2045

theorem SampleFormat.unitsOne_eq (f : SampleFormat) : f.unitsOne = 2 ^ f.oneExp := by
  cases f <;> simp only [unitsOne, oneExp]

theorem SampleFormat.infMag_eq (f : SampleFormat) : f.infMag = f.topExp * 2 ^ f.fracBits + 2 * 2 ^ f.fracBits := by
  cases f <;> rfl

theorem SampleFormat.oneExp_lt_topExp (f : SampleFormat) : f.oneExp < f.topExp := by cases f <;> decide

theorem SampleFormat.two_pow_fracBits_even (f : SampleFormat) : 2 ^ f.fracBits % 2 = 0 := by cases f <;> rfl

theorem SampleFormat.signPlace_even (f : SampleFormat) : f.signPlace % 2 = 0 := by cases f <;> rfl

/-- The overflow bound is half a top spacing below the value the infinite magnitude would have. -/
theorem overflowBound_eq (f : SampleFormat) :
    2 * overflowBound f + 2 ^ f.topExp = 2 * (2 * 2 ^ f.fracBits * 2 ^ f.topExp) := by
  cases f <;> decide +kernel

namespace Machine

/-! ## The value of a magnitude pattern -/

/-- The value of a magnitude pattern in smallest subnormals: `units` as a function of the bits below the sign. -/
def magUnits (f : SampleFormat) (m : Nat) : Nat :=
  if m / 2 ^ f.fracBits = 0 then m % 2 ^ f.fracBits
  else (2 ^ f.fracBits + m % 2 ^ f.fracBits) * 2 ^ (m / 2 ^ f.fracBits - 1)

theorem units_eq_magUnits (f : SampleFormat) (a : Sample) : units f a = magUnits f (fmag f a) := rfl

theorem magUnits_subnormal {f : SampleFormat} {m : Nat} (h : m < 2 ^ f.fracBits) : magUnits f m = m := by
  simp [magUnits, Nat.div_eq_of_lt h, Nat.mod_eq_of_lt h]

theorem magUnits_normal {f : SampleFormat} {r : Nat} (e : Nat) (h : r < 2 ^ f.fracBits) :
    magUnits f ((e + 1) * 2 ^ f.fracBits + r) = (2 ^ f.fracBits + r) * 2 ^ e := by
  have hdiv : ((e + 1) * 2 ^ f.fracBits + r) / 2 ^ f.fracBits = e + 1 := by
    rw [Nat.add_comm, Nat.add_mul_div_right _ _ (by positivity), Nat.div_eq_of_lt h, Nat.zero_add]
  have hmod : ((e + 1) * 2 ^ f.fracBits + r) % 2 ^ f.fracBits = r := by
    rw [Nat.add_comm, Nat.add_mul_mod_self_right, Nat.mod_eq_of_lt h]
  simp [magUnits, hdiv, hmod]

/-- `s` spacings of `2^k` units: a subnormal significand only at the least spacing, and a carry into the next exponent
allowed. -/
def IsScale (f : SampleFormat) (k s : Nat) : Prop := s ≤ 2 * 2 ^ f.fracBits ∧ (k = 0 ∨ 2 ^ f.fracBits ≤ s)

theorem magUnits_scale {f : SampleFormat} {k s : Nat} (h : IsScale f k s) :
    magUnits f (k * 2 ^ f.fracBits + s) = s * 2 ^ k := by
  obtain ⟨hs, hk⟩ := h
  have hpos : 0 < 2 ^ f.fracBits := by positivity
  obtain hsub | hnormal := Nat.lt_or_ge s (2 ^ f.fracBits)
  · obtain rfl : k = 0 := hk.resolve_right (by omega)
    simp [magUnits_subnormal hsub]
  obtain ⟨r, rfl⟩ := Nat.exists_eq_add_of_le hnormal
  obtain hr | hcarry := Nat.lt_or_ge r (2 ^ f.fracBits)
  · rw [← magUnits_normal k hr]; congr 1; ring
  · obtain rfl : r = 2 ^ f.fracBits := by omega
    calc magUnits f (k * 2 ^ f.fracBits + (2 ^ f.fracBits + 2 ^ f.fracBits))
        = magUnits f ((k + 1 + 1) * 2 ^ f.fracBits + 0) := by congr 1; ring
      _ = (2 ^ f.fracBits + 0) * 2 ^ (k + 1) := magUnits_normal (k + 1) hpos
      _ = (2 ^ f.fracBits + 2 ^ f.fracBits) * 2 ^ k := by ring

/-- Every magnitude pattern is a number of spacings, with room for one more. -/
theorem exists_scale (f : SampleFormat) (m : Nat) :
    ∃ k s, m = k * 2 ^ f.fracBits + s ∧ s < 2 * 2 ^ f.fracBits ∧ IsScale f k s := by
  have hmod := Nat.mod_lt m (show 0 < 2 ^ f.fracBits by positivity)
  have hdm := Nat.div_add_mod' m (2 ^ f.fracBits)
  cases hq : m / 2 ^ f.fracBits with
  | zero => rw [hq] at hdm; exact ⟨0, m, by simp, by omega, by omega, .inl rfl⟩
  | succ e =>
    rw [hq, Nat.add_mul] at hdm
    exact ⟨e, 2 ^ f.fracBits + m % 2 ^ f.fracBits, by omega, by omega, by omega, .inr (by omega)⟩

/-- The next pattern up is at least one spacing away. -/
theorem le_magUnits_succ {f : SampleFormat} {k s : Nat} (h : IsScale f k s) :
    (s + 1) * 2 ^ k ≤ magUnits f (k * 2 ^ f.fracBits + s + 1) := by
  have hpos : 0 < 2 ^ f.fracBits := by positivity
  obtain hs | hcarry := Nat.lt_or_ge s (2 * 2 ^ f.fracBits)
  · rw [Nat.add_assoc, magUnits_scale ⟨hs, h.2.imp_right (by omega)⟩]
  · obtain rfl : s = 2 * 2 ^ f.fracBits := Nat.le_antisymm h.1 hcarry
    have hnext : IsScale f (k + 1) (2 ^ f.fracBits + 1) := ⟨by omega, .inr (by omega)⟩
    calc (2 * 2 ^ f.fracBits + 1) * 2 ^ k
        ≤ (2 * 2 ^ f.fracBits + 2) * 2 ^ k := Nat.mul_le_mul_right _ (by omega)
      _ = (2 ^ f.fracBits + 1) * 2 ^ (k + 1) := by ring
      _ = magUnits f ((k + 1) * 2 ^ f.fracBits + (2 ^ f.fracBits + 1)) := (magUnits_scale hnext).symm
      _ = magUnits f (k * 2 ^ f.fracBits + 2 * 2 ^ f.fracBits + 1) := by congr 1; ring

theorem magUnits_strictMono (f : SampleFormat) : StrictMono (magUnits f) := by
  refine strictMono_nat_of_lt_succ fun m => ?_
  obtain ⟨k, s, rfl, -, h⟩ := exists_scale f m
  calc magUnits f (k * 2 ^ f.fracBits + s)
      = s * 2 ^ k := magUnits_scale h
    _ < (s + 1) * 2 ^ k := Nat.mul_lt_mul_of_pos_right s.lt_succ_self (by positivity)
    _ ≤ _ := le_magUnits_succ h

@[simp] theorem magUnits_zero (f : SampleFormat) : magUnits f 0 = 0 := magUnits_subnormal (by positivity)

theorem magUnits_infMag (f : SampleFormat) : magUnits f f.infMag = 2 * 2 ^ f.fracBits * 2 ^ f.topExp := by
  rw [f.infMag_eq, magUnits_scale ⟨le_rfl, .inr (by omega)⟩]

/-- The largest finite value. -/
theorem magUnits_infMag_pred (f : SampleFormat) :
    magUnits f (f.infMag - 1) + 2 ^ f.topExp = 2 * 2 ^ f.fracBits * 2 ^ f.topExp := by
  have hpos : 0 < 2 ^ f.fracBits := by positivity
  have hsub : f.infMag - 1 = f.topExp * 2 ^ f.fracBits + (2 * 2 ^ f.fracBits - 1) := by rw [f.infMag_eq]; omega
  rw [hsub, magUnits_scale ⟨by omega, .inr (by omega)⟩, ← Nat.succ_mul]
  congr 1; omega

/-! ## Rounding to an integer -/

/-- `roundEven` goes to the even integer where it is off by one half. -/
theorem roundEven_even_of_tie {num den : Nat} (h : 0 < den)
    (tie : 2 * (roundEven num den * den) = 2 * num + den ∨ 2 * num = 2 * (roundEven num den * den) + den) :
    roundEven num den % 2 = 0 := by
  have hm := Nat.mod_lt num h
  have hd := Nat.div_add_mod' num den
  have hsucc : (num / den + 1) * den = num / den * den + den := by ring
  revert tie
  unfold roundEven
  simp only
  split_ifs <;> intro tie <;> omega

/-- `roundAway` is off by at most half upwards and by less than half downwards. -/
theorem roundAway_near (num : Nat) {den : Nat} (h : 0 < den) :
    2 * (roundAway num den * den) ≤ 2 * num + den ∧ 2 * num < 2 * (roundAway num den * den) + den := by
  have hm := Nat.mod_lt (2 * num + den) (show 0 < 2 * den by omega)
  have hd := Nat.div_add_mod' (2 * num + den) (2 * den)
  have e : roundAway num den * (2 * den) = 2 * (roundAway num den * den) := by ring
  unfold roundAway at *
  omega

/-! ## Rounding to a magnitude pattern -/

/-- The magnitude pattern that `roundMag` cuts off at infinity. -/
def roundMagUnbounded (f : SampleFormat) (num den : Nat) : Nat :=
  let k := Nat.log2 (num / den) - f.fracBits
  k * 2 ^ f.fracBits + roundEven num (den * 2 ^ k)

theorem roundMag_eq_min (f : SampleFormat) (num den : Nat) :
    roundMag f num den = min (roundMagUnbounded f num den) f.infMag := rfl

/-- `num/den` lies below the top of the range with spacing `2^k`, and not below its bottom unless `k = 0`. -/
theorem spacing_bounds (f : SampleFormat) (num : Nat) {den k : Nat} (h : 0 < den)
    (hk : k = Nat.log2 (num / den) - f.fracBits) :
    num < 2 * 2 ^ f.fracBits * (den * 2 ^ k) ∧ (k = 0 ∨ 2 ^ f.fracBits * (den * 2 ^ k) ≤ num) := by
  constructor
  · have hlog : num / den < 2 ^ (f.fracBits + 1 + k) :=
      Nat.lt_log2_self.trans_le (Nat.pow_le_pow_right (by decide) (by omega))
    calc num < 2 ^ (f.fracBits + 1 + k) * den := (Nat.div_lt_iff_lt_mul h).1 hlog
      _ = 2 * 2 ^ f.fracBits * (den * 2 ^ k) := by ring
  · refine k.eq_zero_or_pos.imp_right fun hpos => ?_
    have hq : num / den ≠ 0 := by rintro h0; simp [h0, Nat.log2_zero] at hk; omega
    have hlog : 2 ^ (f.fracBits + k) ≤ num / den := by
      rw [show f.fracBits + k = Nat.log2 (num / den) by omega]; exact Nat.log2_self_le hq
    calc 2 ^ f.fracBits * (den * 2 ^ k) = 2 ^ (f.fracBits + k) * den := by ring
      _ ≤ num := (Nat.le_div_iff_mul_le h).1 hlog

/-- The rounded pattern as a number of spacings. -/
theorem roundMagUnbounded_scale (f : SampleFormat) (num : Nat) {den : Nat} (h : 0 < den) :
    ∃ k s, roundMagUnbounded f num den = k * 2 ^ f.fracBits + s ∧ s = roundEven num (den * 2 ^ k) ∧ IsScale f k s ∧
      (k = 0 ∨ 2 ^ f.fracBits * (den * 2 ^ k) ≤ num) := by
  obtain ⟨hup, hlow⟩ := spacing_bounds f num h rfl
  refine ⟨_, _, rfl, rfl, ?_, hlow⟩
  generalize Nat.log2 (num / den) - f.fracBits = k at *
  have hD : 0 < den * 2 ^ k := by positivity
  generalize den * 2 ^ k = D at *
  obtain ⟨hle, hge⟩ := roundEven_near num hD
  constructor
  · by_contra hgt
    have : (2 * 2 ^ f.fracBits + 1) * D ≤ roundEven num D * D := Nat.mul_le_mul_right _ (by omega)
    rw [Nat.succ_mul] at this; omega
  · refine hlow.imp_right fun hlow => ?_
    by_contra hlt
    have : (roundEven num D + 1) * D ≤ 2 ^ f.fracBits * D := Nat.mul_le_mul_right _ (by omega)
    rw [Nat.succ_mul] at this; omega

/-- How far `m` is from `num/den`, times `den`. -/
def magDist (f : SampleFormat) (num den m : Nat) : Nat := ((den * magUnits f m : Nat) - (num : Int)).natAbs

/-- The unbounded rounding is nearest among all magnitude patterns, ties to the even one. -/
theorem roundMagUnbounded_nearest (f : SampleFormat) (num : Nat) {den : Nat} (h : 0 < den) (c : Nat) :
    let m := roundMagUnbounded f num den
    magDist f num den m ≤ magDist f num den c ∧ (magDist f num den m = magDist f num den c → c ≠ m → m % 2 = 0) := by
  obtain ⟨k, s, hm, hs, hscale, hlow⟩ := roundMagUnbounded_scale f num h
  have hD : 0 < den * 2 ^ k := by positivity
  have hnear := roundEven_near num hD
  have htie := roundEven_even_of_tie (num := num) hD
  rw [← hs] at hnear htie
  have hparity : (k * 2 ^ f.fracBits + s) % 2 = s % 2 := by
    rw [Nat.add_mod, Nat.mul_mod, f.two_pow_fracBits_even]; simp
  have hval : ∀ t, den * (t * 2 ^ k) = t * (den * 2 ^ k) := fun t => by ring
  have hmval : den * magUnits f (k * 2 ^ f.fracBits + s) = s * (den * 2 ^ k) := by rw [magUnits_scale hscale, hval]
  simp only [hm, hparity, magDist, hmval]
  obtain hc | rfl | hc := lt_trichotomy c (k * 2 ^ f.fracBits + s)
  · have hbelow : den * magUnits f c + den * 2 ^ k ≤ s * (den * 2 ^ k) ∨
        (den * magUnits f c < s * (den * 2 ^ k) ∧ s * (den * 2 ^ k) ≤ num) := by
      by_cases hpred : 0 < s ∧ IsScale f k (s - 1)
      · left
        obtain ⟨t, rfl⟩ := Nat.exists_eq_succ_of_ne_zero hpred.1.ne'
        have : magUnits f c ≤ t * 2 ^ k :=
          magUnits_scale hpred.2 ▸ (magUnits_strictMono f).monotone (by omega)
        calc den * magUnits f c + den * 2 ^ k ≤ den * (t * 2 ^ k) + den * 2 ^ k := by gcongr
          _ = (t + 1) * (den * 2 ^ k) := by ring
      · right
        have hlt : den * magUnits f c < s * (den * 2 ^ k) :=
          hmval ▸ Nat.mul_lt_mul_of_pos_left (magUnits_strictMono f hc) h
        refine ⟨hlt, ?_⟩
        obtain ⟨hup, hk⟩ := hscale
        unfold IsScale at hpred
        have hs0 : 0 < s := Nat.pos_of_ne_zero fun h0 => by simp [h0] at hlt
        obtain ⟨hk0, rfl⟩ : k ≠ 0 ∧ s = 2 ^ f.fracBits := by omega
        exact hlow.resolve_left hk0
    omega
  · rw [hmval]; exact ⟨le_rfl, fun _ hne => absurd rfl hne⟩
  · have habove : s * (den * 2 ^ k) + den * 2 ^ k ≤ den * magUnits f c :=
      calc s * (den * 2 ^ k) + den * 2 ^ k = den * ((s + 1) * 2 ^ k) := by ring
        _ ≤ den * magUnits f c := by
          gcongr
          exact (le_magUnits_succ hscale).trans ((magUnits_strictMono f).monotone hc)
    omega

/-- A value of the format rounds to itself. -/
theorem roundMag_magUnits {f : SampleFormat} {m : Nat} (h : m ≤ f.infMag) : roundMag f (magUnits f m) 1 = m := by
  have hnear := (roundMagUnbounded_nearest f (magUnits f m) one_pos m).1
  have hval : magUnits f (roundMagUnbounded f (magUnits f m) 1) = magUnits f m := by
    simp only [magDist, one_mul] at hnear; omega
  rw [roundMag_eq_min, (magUnits_strictMono f).injective hval, min_eq_left h]

/-- The rounding overflows from half a spacing above the largest finite value on. -/
theorem roundMagUnbounded_lt_infMag_iff (f : SampleFormat) (num : Nat) {den : Nat} (h : 0 < den) :
    roundMagUnbounded f num den < f.infMag ↔ num < overflowBound f * den := by
  have hpos : 0 < den * 2 ^ f.topExp := by positivity
  have hlast : den * magUnits f (f.infMag - 1) + den * 2 ^ f.topExp = den * magUnits f f.infMag := by
    rw [← Nat.mul_add, magUnits_infMag_pred, magUnits_infMag]
  have hbound : 2 * (overflowBound f * den) + den * 2 ^ f.topExp = 2 * (den * magUnits f f.infMag) := by
    rw [magUnits_infMag]; linear_combination den * overflowBound_eq f
  have hodd : (f.infMag - 1) % 2 = 1 := by cases f <;> rfl
  have hnear := roundMagUnbounded_nearest f num h
  generalize roundMagUnbounded f num den = m at *
  have hmono : ∀ {x y}, x ≤ y → den * magUnits f x ≤ den * magUnits f y := fun hxy =>
    Nat.mul_le_mul_left _ ((magUnits_strictMono f).monotone hxy)
  simp only [magDist] at hnear
  constructor
  · intro hlt
    have hm : den * magUnits f m ≤ den * magUnits f (f.infMag - 1) := hmono (by omega)
    obtain ⟨hle, htie⟩ := hnear f.infMag
    by_contra hge
    have heq : den * magUnits f m = den * magUnits f (f.infMag - 1) := by omega
    have : m = f.infMag - 1 := (magUnits_strictMono f).injective (Nat.eq_of_mul_eq_mul_left h heq)
    omega
  · intro hlt
    by_contra hge
    have hm : den * magUnits f f.infMag ≤ den * magUnits f m := hmono (by omega)
    obtain ⟨hle, -⟩ := hnear (f.infMag - 1)
    omega

end Machine
end Sys2Proof
end

section
/-! SUPPORT. Finite patterns under sign and packing, and the primitives on finite operands. -/

namespace Sys2Proof.Machine

open Sys2Proof Claims

/-! ## Packed patterns -/

theorem isFinite_packFloat {f : SampleFormat} {neg : Bool} {m : Nat} (h : m < f.signPlace) :
    isFinite f (packFloat f neg m) = decide (m < f.infMag) := by
  simp [isFinite, fmag_packFloat h]

theorem isInf_packFloat {f : SampleFormat} {neg : Bool} {m : Nat} (h : m < f.signPlace) :
    isInf f (packFloat f neg m) = decide (m = f.infMag) := by
  rw [isInf, fmag_packFloat h]; rfl

theorem units_packFloat {f : SampleFormat} {neg : Bool} {m : Nat} (h : m < f.signPlace) :
    units f (packFloat f neg m) = magUnits f m := by
  rw [units_eq_magUnits, fmag_packFloat h]

theorem packFloat_toNat_mod_two {f : SampleFormat} {neg : Bool} {m : Nat} (h : m < f.signPlace) :
    (packFloat f neg m).toNat % 2 = m % 2 := by
  rw [packFloat_toNat h]
  cases neg
  · rfl
  · simp [Nat.add_mod, f.signPlace_even]

theorem fmag_lt_signPlace {f : SampleFormat} {a : Sample} (h : isFinite f a = true) : fmag f a < f.signPlace :=
  (of_decide_eq_true h).trans f.infMag_lt

theorem isFinite_fneg {f : SampleFormat} {a : Sample} (h : isFinite f a = true) : isFinite f (fneg f a) = true := by
  rw [fneg, isFinite_packFloat (fmag_lt_signPlace h)]; exact h

theorem fsign_fneg {f : SampleFormat} {a : Sample} (h : isFinite f a = true) : fsign f (fneg f a) = !fsign f a :=
  fsign_packFloat (fmag_lt_signPlace h)

theorem sunits_fneg {f : SampleFormat} {a : Sample} (h : isFinite f a = true) : sunits f (fneg f a) = -sunits f a := by
  have hunits : units f (fneg f a) = units f a := units_packFloat (fmag_lt_signPlace h)
  rw [sunits, sunits, fsign_fneg h, hunits]
  cases fsign f a <;> simp

theorem natAbs_sunits (f : SampleFormat) (a : Sample) : (sunits f a).natAbs = units f a := by
  unfold sunits; split <;> simp

theorem sunits_eq_zero_iff (f : SampleFormat) (a : Sample) : sunits f a = 0 ↔ units f a = 0 := by
  rw [← natAbs_sunits, Int.natAbs_eq_zero]

/-- A value that is not zero is negative when its sign bit is set. -/
theorem decide_sunits_neg {f : SampleFormat} {a : Sample} (h : sunits f a ≠ 0) : decide (sunits f a < 0) = fsign f a := by
  unfold sunits at *
  cases fsign f a <;> simp at * ; omega

/-! ## Correct rounding -/

theorem mul_sunits (f : SampleFormat) (a : Sample) (den : Nat) :
    den * sunits f a = if fsign f a then -((den * units f a : Nat) : Int) else ((den * units f a : Nat) : Int) := by
  unfold sunits; split <;> push_cast <;> ring

/-- The distance of the magnitudes is a lower bound for the distance of the values. -/
theorem magDist_fmag_le (f : SampleFormat) (a : Sample) (num : Int) (den : Nat) :
    magDist f num.natAbs den (fmag f a) ≤ (den * sunits f a - num).natAbs := by
  rw [mul_sunits, magDist, ← units_eq_magUnits]
  split <;> omega

/-- With equal signs it is the distance of the values. -/
theorem magDist_fmag_eq {f : SampleFormat} {a : Sample} {num : Int} (den : Nat)
    (h : num ≠ 0 → decide (num < 0) = fsign f a) :
    magDist f num.natAbs den (fmag f a) = (den * sunits f a - num).natAbs := by
  rw [mul_sunits, magDist, ← units_eq_magUnits]
  obtain rfl | hnum := eq_or_ne num 0
  · split <;> omega
  · rw [← h hnum]
    simp only [decide_eq_true_eq]
    split <;> omega

/-- With unequal signs it is less. -/
theorem magDist_fmag_lt {f : SampleFormat} {a : Sample} {num : Int} {den : Nat} (hden : 0 < den) (hnum : num ≠ 0)
    (ha : units f a ≠ 0) (h : decide (num < 0) ≠ fsign f a) :
    magDist f num.natAbs den (fmag f a) < (den * sunits f a - num).natAbs := by
  have hpos : 0 < den * units f a := by positivity
  rw [mul_sunits, magDist, ← units_eq_magUnits, ← Bool.not_eq.2 h]
  simp only [Bool.not_eq_true', decide_eq_false_iff_not]
  split <;> omega

/-- Rounding the magnitude of `num/den` and giving it the sign of `num` is correct rounding. The sign of a zero is free. -/
theorem correctlyRounded_packFloat {f : SampleFormat} {neg : Bool} {num : Int} {den : Nat} (hden : 0 < den)
    (hneg : num ≠ 0 → decide (num < 0) = neg) :
    correctlyRounded f (packFloat f neg (roundMag f num.natAbs den)) num den := by
  have hlt := roundMag_lt f num.natAbs den
  have hover := roundMagUnbounded_lt_infMag_iff f num.natAbs hden
  unfold correctlyRounded
  split_ifs with hfin
  · have hm := hover.2 hfin
    have hround : roundMag f num.natAbs den = roundMagUnbounded f num.natAbs den := min_eq_left hm.le
    refine ⟨by rw [isFinite_packFloat hlt, hround]; exact decide_eq_true hm, fun c _ => ?_⟩
    obtain ⟨hle, htie⟩ := roundMagUnbounded_nearest f num.natAbs hden (fmag f c)
    have hc := magDist_fmag_le f c num den
    have hr := magDist_fmag_eq (f := f) (a := packFloat f neg (roundMag f num.natAbs den)) den
      (by rwa [fsign_packFloat hlt])
    rw [fmag_packFloat hlt] at hr
    rw [← hround] at hle htie
    refine ⟨hr ▸ hle.trans hc, fun heq hne => ?_⟩
    rw [packFloat_toNat_mod_two hlt]
    refine htie (by omega) fun hmag => hne ?_
    obtain rfl | hsign := eq_or_ne (fsign f c) neg
    · rw [← hmag, packFloat_fsign_fmag]
    · have hzero : units f c = 0 := by
        by_contra hc0
        have hnum : num ≠ 0 := by
          rintro rfl
          rw [units_eq_magUnits, hmag, Int.natAbs_zero, roundMag_zero, magUnits_zero] at hc0
          exact hc0 rfl
        have := magDist_fmag_lt hden hnum hc0 (hneg hnum ▸ hsign.symm)
        omega
      rw [(sunits_eq_zero_iff f c).2 hzero, sunits_eq_zero_iff, units_packFloat hlt, ← hmag, ← units_eq_magUnits, hzero]
  · have hinf : roundMag f num.natAbs den = f.infMag := min_eq_right (not_lt.1 (mt hover.1 hfin))
    have hnum : num ≠ 0 := by
      rintro rfl
      have := f.infMag_lt
      rw [Int.natAbs_zero, roundMag_zero] at hinf
      cases f <;> simp [SampleFormat.infMag] at hinf
    exact ⟨by rw [isInf_packFloat hlt, hinf]; simp, by rw [fsign_packFloat hlt, hneg hnum]⟩

end Sys2Proof.Machine
end

section
/-! THEOREM. The statements about the arithmetic primitives (spec/00_scope.md R9 to R14). -/

namespace Sys2Proof.Machine

open Sys2Proof Claims

/-! ## Sums and differences -/

/-- The sum of two finite patterns; an exact zero is negative only when both terms are. -/
theorem addNonNaN_of_isFinite (n : Arith) (op : FloatOp) {a b : Sample} (ha : isFinite n.format a = true)
    (hb : isFinite n.format b = true) :
    let z := sunits n.format a + sunits n.format b
    let neg := if z = 0 then fsign n.format a && fsign n.format b else decide (z < 0)
    addNonNaN n op a b = packFloat n.format neg (roundMag n.format z.natAbs 1) := by
  simp only [addNonNaN, isInf_of_isFinite ha, isInf_of_isFinite hb, Bool.false_eq_true, if_false]
  split <;> simp [*, roundMag_zero]

theorem fadd_of_isFinite (n : Arith) {a b : Sample} (ha : isFinite n.format a = true)
    (hb : isFinite n.format b = true) : fadd n a b = addNonNaN n .add a b := by
  simp [fadd, isNaN_of_isFinite ha, isNaN_of_isFinite hb]

theorem fsub_of_isFinite (n : Arith) {a b : Sample} (ha : isFinite n.format a = true)
    (hb : isFinite n.format b = true) : fsub n a b = addNonNaN n .sub a (fneg n.format b) := by
  simp [fsub, isNaN_of_isFinite ha, isNaN_of_isFinite hb]

theorem addNonNaN_correctlyRounded (n : Arith) (op : FloatOp) {a b : Sample} (ha : isFinite n.format a = true)
    (hb : isFinite n.format b = true) :
    correctlyRounded n.format (addNonNaN n op a b) (sunits n.format a + sunits n.format b) 1 := by
  rw [addNonNaN_of_isFinite n op ha hb]
  exact correctlyRounded_packFloat one_pos fun hz => (if_neg hz).symm

/-- Both zeros as literals of the format. -/
theorem packFloat_zero (f : SampleFormat) (neg : Bool) :
    packFloat f neg 0 = if neg then lit f 0x80000000 0x8000000000000000 else 0 := by
  cases f <;> cases neg <;> rfl

theorem addNonNaN_zero (n : Arith) (op : FloatOp) {a b : Sample} (ha : isFinite n.format a = true)
    (hb : isFinite n.format b = true) (hz : sunits n.format a + sunits n.format b = 0) :
    addNonNaN n op a b =
      if fsign n.format a && fsign n.format b then lit n.format 0x80000000 0x8000000000000000 else 0 := by
  rw [addNonNaN_of_isFinite n op ha hb, hz, if_pos rfl, Int.natAbs_zero, roundMag_zero, packFloat_zero]

/-- Settles O55: a sum of finite values is one rounding of the exact sum, and a difference is the sum with the subtrahend
negated. -/
theorem addAndSubAreCorrectlyRounded : Obligations.AddAndSubAreCorrectlyRounded := by
  intro n a b f negZero ha hb
  have hnb := isFinite_fneg hb
  have hdiff : sunits f a - sunits f b = sunits f a + sunits f (fneg f b) := by rw [sunits_fneg hb]; ring
  rw [fadd_of_isFinite n ha hb, fsub_of_isFinite n ha hb, hdiff, ← fsign_fneg hb]
  exact ⟨addNonNaN_correctlyRounded n _ ha hb, addNonNaN_correctlyRounded n _ ha hnb, addNonNaN_zero n _ ha hb,
    addNonNaN_zero n _ ha hnb⟩

/-! ## Products and quotients -/

theorem fmul_of_isFinite (n : Arith) {a b : Sample} (ha : isFinite n.format a = true)
    (hb : isFinite n.format b = true) :
    fmul n a b = packFloat n.format (fsign n.format a != fsign n.format b)
      (roundMag n.format (units n.format a * units n.format b) n.format.unitsOne) := by
  simp [fmul, isNaN_of_isFinite ha, isNaN_of_isFinite hb, isInf_of_isFinite ha, isInf_of_isFinite hb]

theorem fdiv_of_isFinite (n : Arith) {a b : Sample} (ha : isFinite n.format a = true)
    (hb : isFinite n.format b = true) :
    fdiv n a b =
      if units n.format b = 0 then
        if units n.format a = 0 then drawNaN n .div a b
        else packFloat n.format (fsign n.format a != fsign n.format b) n.format.infMag
      else packFloat n.format (fsign n.format a != fsign n.format b)
        (roundMag n.format (units n.format a * n.format.unitsOne) (units n.format b)) := by
  simp [fdiv, isNaN_of_isFinite ha, isNaN_of_isFinite hb, isInf_of_isFinite ha, isInf_of_isFinite hb]

theorem decide_mul_neg {x y : Int} (hx : x ≠ 0) (hy : y ≠ 0) :
    decide (x * y < 0) = (decide (x < 0) != decide (y < 0)) := by
  obtain hx | hx := lt_or_gt_of_ne hx <;> obtain hy | hy := lt_or_gt_of_ne hy <;>
    simp [mul_neg_iff, hx, hy, hx.not_gt, hy.not_gt]

/-- A product of values is negative when their sign bits differ. -/
theorem decide_mul_sunits_neg {f : SampleFormat} {a b : Sample} (h : sunits f a * sunits f b ≠ 0) :
    decide (sunits f a * sunits f b < 0) = (fsign f a != fsign f b) := by
  obtain ⟨ha, hb⟩ := mul_ne_zero_iff.1 h
  rw [decide_mul_neg ha hb, decide_sunits_neg ha, decide_sunits_neg hb]

/-- So is a quotient, its numerator being given the sign of the divisor. -/
theorem decide_div_sunits_neg {f : SampleFormat} {a b : Sample}
    (h : sunits f a * f.unitsOne * (sunits f b).sign ≠ 0) :
    decide (sunits f a * f.unitsOne * (sunits f b).sign < 0) = (fsign f a != fsign f b) := by
  obtain ⟨hnum, hsign⟩ := mul_ne_zero_iff.1 h
  have ha := left_ne_zero_of_mul hnum
  have hb : sunits f b ≠ 0 := mt Int.sign_eq_zero_iff_zero.2 hsign
  rw [decide_mul_neg hnum hsign, ← decide_sunits_neg ha, ← decide_sunits_neg hb]
  simp [mul_neg_iff, f.unitsOne_pos]

theorem fmul_correctlyRounded (n : Arith) {a b : Sample} (ha : isFinite n.format a = true)
    (hb : isFinite n.format b = true) :
    correctlyRounded n.format (fmul n a b) (sunits n.format a * sunits n.format b) n.format.unitsOne := by
  rw [fmul_of_isFinite n ha hb, ← natAbs_sunits, ← natAbs_sunits, ← Int.natAbs_mul]
  exact correctlyRounded_packFloat n.format.unitsOne_pos decide_mul_sunits_neg

theorem fsign_fmul (n : Arith) {a b : Sample} (ha : isFinite n.format a = true) (hb : isFinite n.format b = true) :
    fsign n.format (fmul n a b) = (fsign n.format a != fsign n.format b) := by
  rw [fmul_of_isFinite n ha hb, fsign_packFloat (roundMag_lt ..)]

theorem fdiv_correctlyRounded (n : Arith) {a b : Sample} (ha : isFinite n.format a = true)
    (hb : isFinite n.format b = true) (h0 : sunits n.format b ≠ 0) :
    correctlyRounded n.format (fdiv n a b)
      (sunits n.format a * n.format.unitsOne * (sunits n.format b).sign) (sunits n.format b).natAbs := by
  have hunits : units n.format b ≠ 0 := mt (sunits_eq_zero_iff _ _).2 h0
  have habs : (sunits n.format a * n.format.unitsOne * (sunits n.format b).sign).natAbs =
      units n.format a * n.format.unitsOne := by
    rw [Int.natAbs_mul, Int.natAbs_mul, Int.natAbs_sign_of_ne_zero h0, natAbs_sunits, Int.natAbs_natCast, mul_one]
  rw [fdiv_of_isFinite n ha hb, if_neg hunits, ← habs, ← natAbs_sunits n.format b]
  exact correctlyRounded_packFloat (Int.natAbs_pos.2 h0) decide_div_sunits_neg

theorem fsign_fdiv (n : Arith) {a b : Sample} (ha : isFinite n.format a = true) (hb : isFinite n.format b = true)
    (h : sunits n.format b ≠ 0 ∨ sunits n.format a ≠ 0) :
    fsign n.format (fdiv n a b) = (fsign n.format a != fsign n.format b) := by
  rw [ne_eq, ne_eq, sunits_eq_zero_iff, sunits_eq_zero_iff] at h
  rw [fdiv_of_isFinite n ha hb]
  split_ifs
  · omega
  · exact fsign_packFloat n.format.infMag_lt
  · exact fsign_packFloat (roundMag_lt ..)

/-- Settles O56: a product and a quotient of finite values are one rounding of the exact one; the zero divisor apart. -/
theorem mulAndDivAreCorrectlyRounded : Obligations.MulAndDivAreCorrectlyRounded := by
  intro n a b f ha hb
  refine ⟨fmul_correctlyRounded n ha hb, fsign_fmul n ha hb,
    fun h0 => ⟨fdiv_correctlyRounded n ha hb h0, fsign_fdiv n ha hb (.inl h0)⟩,
    fun h0 ha0 => ⟨?_, fsign_fdiv n ha hb (.inr ha0)⟩, fun h0 ha0 => ?_⟩
  · rw [fdiv_of_isFinite n ha hb, if_pos ((sunits_eq_zero_iff _ _).1 h0), if_neg (mt (sunits_eq_zero_iff _ _).2 ha0),
      isInf_packFloat f.infMag_lt]
    exact decide_eq_true rfl
  · rw [fdiv_of_isFinite n ha hb, if_pos ((sunits_eq_zero_iff _ _).1 h0), if_pos ((sunits_eq_zero_iff _ _).1 ha0)]
    exact isNaN_drawNaN ..

/-! ## Integral values -/

/-- Every multiple of a spacing with a significand of the format is a value of the format. -/
theorem exists_magUnits_eq (f : SampleFormat) (k : Nat) {s : Nat} (h : s < 2 * 2 ^ f.fracBits) :
    ∃ m < k * 2 ^ f.fracBits + 2 * 2 ^ f.fracBits, magUnits f m = s * 2 ^ k := by
  induction k generalizing s with
  | zero => exact ⟨0 * 2 ^ f.fracBits + s, by omega, magUnits_scale ⟨h.le, .inl rfl⟩⟩
  | succ k ih =>
    obtain hs | hs := Nat.lt_or_ge s (2 ^ f.fracBits)
    · obtain ⟨m, hm, hval⟩ := ih (s := 2 * s) (by omega)
      exact ⟨m, by rw [Nat.succ_mul]; omega, by rw [hval]; ring⟩
    · exact ⟨(k + 1) * 2 ^ f.fracBits + s, by omega, magUnits_scale ⟨h.le, .inr hs⟩⟩

/-- From `2^fracBits` on every value is integral. -/
theorem unitsOne_dvd_magUnits {f : SampleFormat} {m : Nat} (h : 2 ^ f.fracBits * f.unitsOne ≤ magUnits f m) :
    f.unitsOne ∣ magUnits f m := by
  obtain ⟨k, s, rfl, hs, hscale⟩ := exists_scale f m
  rw [magUnits_scale hscale, f.unitsOne_eq] at *
  have hk : f.oneExp ≤ k := by
    have : 2 ^ (f.fracBits + f.oneExp) < 2 ^ (f.fracBits + 1 + k) :=
      calc 2 ^ (f.fracBits + f.oneExp) = 2 ^ f.fracBits * 2 ^ f.oneExp := by ring
        _ ≤ s * 2 ^ k := h
        _ < 2 * 2 ^ f.fracBits * 2 ^ k := Nat.mul_lt_mul_of_pos_right hs (by positivity)
        _ = 2 ^ (f.fracBits + 1 + k) := by ring
    have := (Nat.pow_lt_pow_iff_right (by decide)).1 this
    omega
  exact (Nat.pow_dvd_pow 2 hk).mul_left s

/-- There the only integer next to a value is the value. -/
theorem integral_eq_of_large {f : SampleFormat} {x m : Nat} (hlarge : 2 ^ f.fracBits * f.unitsOne ≤ magUnits f x)
    (hlow : magUnits f x < m * f.unitsOne + f.unitsOne) (hup : m * f.unitsOne < magUnits f x + f.unitsOne) :
    m * f.unitsOne = magUnits f x := by
  obtain ⟨t, ht⟩ := unitsOne_dvd_magUnits hlarge
  rw [ht, Nat.mul_comm f.unitsOne, ← Nat.succ_mul] at hlow hup
  have hle := Nat.lt_of_mul_lt_mul_right hlow
  have hge := Nat.lt_of_mul_lt_mul_right hup
  rw [ht, Nat.mul_comm f.unitsOne, show m = t by omega]

/-- An integer next to a finite value, or equal to it, is a finite value. -/
theorem exists_magUnits_eq_integral {f : SampleFormat} {x m : Nat} (hx : x < f.infMag)
    (hlow : magUnits f x < m * f.unitsOne + f.unitsOne) (hup : m * f.unitsOne < magUnits f x + f.unitsOne) :
    ∃ y < f.infMag, magUnits f y = m * f.unitsOne := by
  have hone := f.unitsOne_pos
  obtain hsmall | hlarge := Nat.lt_or_ge (magUnits f x) (2 ^ f.fracBits * f.unitsOne)
  · have hm : m < 2 ^ f.fracBits + 1 := by
      refine Nat.lt_of_mul_lt_mul_right (a := f.unitsOne) ?_
      rw [Nat.succ_mul]; omega
    have hpos : 0 < 2 ^ f.fracBits := by positivity
    obtain ⟨y, hy, hval⟩ := exists_magUnits_eq f f.oneExp (s := m) (by omega)
    have hexp := Nat.mul_le_mul_right (2 ^ f.fracBits) f.oneExp_lt_topExp.le
    exact ⟨y, by rw [f.infMag_eq]; omega, by rw [hval, f.unitsOne_eq]⟩
  · exact ⟨x, hx, (integral_eq_of_large hlarge hlow hup).symm⟩

/-- What `fround` and `fceil` pack: an integer next to a finite value, exactly. -/
theorem packFloat_integral {f : SampleFormat} {a : Sample} {m : Nat} (ha : isFinite f a = true)
    (hlow : units f a < m * f.unitsOne + f.unitsOne) (hup : m * f.unitsOne < units f a + f.unitsOne) :
    let r := packFloat f (fsign f a) (roundMag f (m * f.unitsOne) 1)
    isFinite f r = true ∧ fsign f r = fsign f a ∧ units f r = m * f.unitsOne := by
  obtain ⟨y, hy, hval⟩ := exists_magUnits_eq_integral (of_decide_eq_true ha) hlow hup
  have hlt := hy.trans f.infMag_lt
  rw [← hval, roundMag_magUnits hy.le]
  exact ⟨by rw [isFinite_packFloat hlt]; exact decide_eq_true hy, fsign_packFloat hlt, units_packFloat hlt⟩

/-- A finite pattern is determined by its sign and its value. -/
theorem eq_of_fsign_of_units {f : SampleFormat} {a b : Sample} (hs : fsign f a = fsign f b)
    (hu : units f a = units f b) : a = b := by
  rw [← packFloat_fsign_fmag (f := f) (a := a), ← packFloat_fsign_fmag (f := f) (a := b), hs,
    (magUnits_strictMono f).injective hu]

theorem isNaN_of_isInf {f : SampleFormat} {a : Sample} (h : isInf f a = true) : isNaN f a = false := by
  simp [isInf, isNaN] at *; omega

/-! ## `fround` -/

/-- `num/den` rounded to an integer by a tie rule. -/
def roundTies : RoundTies → Nat → Nat → Nat
  | .away => roundAway
  | .even => roundEven

theorem fround_of_isFinite (n : Arith) (ties : RoundTies) {a : Sample} (ha : isFinite n.format a = true) :
    fround n ties a = packFloat n.format (fsign n.format a)
      (roundMag n.format (roundTies ties (units n.format a) n.format.unitsOne * n.format.unitsOne) 1) := by
  cases ties <;> simp [fround, roundTies, isNaN_of_isFinite ha, isInf_of_isFinite ha]

theorem roundTies_near (ties : RoundTies) (num : Nat) {den : Nat} (h : 0 < den) :
    2 * (roundTies ties num den * den) ≤ 2 * num + den ∧ 2 * num ≤ 2 * (roundTies ties num den * den) + den := by
  cases ties with
  | away => exact (roundAway_near num h).imp_right le_of_lt
  | even => exact roundEven_near num h

theorem fround_of_isInf (n : Arith) (ties : RoundTies) {a : Sample} (ha : isInf n.format a = true) :
    fround n ties a = a := by
  simp [fround, ha, isNaN_of_isInf ha]

/-- Settles O57: `fround` packs the integer its tie rule gives, exactly. -/
theorem roundTiesAwayIsNearestIntegral : Obligations.RoundTiesAwayIsNearestIntegral := by
  intro n ties a f one
  refine ⟨fun ha => ?_, fround_of_isInf n ties⟩
  have hone : 0 < one := f.unitsOne_pos
  have hnear := roundTies_near ties (units f a) hone
  have hlow : units f a < roundTies ties (units f a) one * one + one := by omega
  have hup : roundTies ties (units f a) one * one < units f a + one := by omega
  obtain ⟨hfin, hsign, hunits⟩ := packFloat_integral ha hlow hup
  rw [fround_of_isFinite n ties ha]
  refine ⟨hfin, hsign, ⟨_, hunits, by omega, fun htie => ?_⟩, fun hlarge =>
    eq_of_fsign_of_units hsign (hunits.trans (integral_eq_of_large hlarge hlow hup))⟩
  cases ties with
  | away =>
    have hstrict : 2 * units f a < 2 * (roundTies .away (units f a) one * one) + one :=
      (roundAway_near (units f a) hone).2
    show units f a < roundTies .away (units f a) one * one
    omega
  | even => exact roundEven_even_of_tie hone (by simp only [roundTies] at htie; omega)

/-! ## `fceil` -/

/-- The magnitude of `fceil`: rounded down for a set sign bit, else up. -/
def ceilMag (neg : Bool) (num den : Nat) : Nat := if neg then num / den else (num + (den - 1)) / den

theorem fceil_of_isFinite (n : Arith) {a : Sample} (ha : isFinite n.format a = true) :
    fceil n a = packFloat n.format (fsign n.format a)
      (roundMag n.format (ceilMag (fsign n.format a) (units n.format a) n.format.unitsOne * n.format.unitsOne) 1) := by
  simp [fceil, ceilMag, isNaN_of_isFinite ha, isInf_of_isFinite ha]

theorem fceil_of_isInf (n : Arith) {a : Sample} (ha : isInf n.format a = true) : fceil n a = a := by
  simp [fceil, ha, isNaN_of_isInf ha]

theorem ceilMag_near (neg : Bool) (num : Nat) {den : Nat} (h : 0 < den) :
    if neg then ceilMag neg num den * den ≤ num ∧ num < ceilMag neg num den * den + den
    else num ≤ ceilMag neg num den * den ∧ ceilMag neg num den * den < num + den := by
  cases neg with
  | true =>
    have hm := Nat.mod_lt num h
    have hd := Nat.div_add_mod' num den
    simp only [ceilMag, if_true]
    omega
  | false =>
    have hm := Nat.mod_lt (num + (den - 1)) h
    have hd := Nat.div_add_mod' (num + (den - 1)) den
    simp only [ceilMag, Bool.false_eq_true, if_false]
    omega

/-- Settles O58: `fceil` packs the magnitude rounded towards positive infinity, exactly. -/
theorem ceilIsLeastIntegralNotBelow : Obligations.CeilIsLeastIntegralNotBelow := by
  intro n a f one
  refine ⟨fun ha => ?_, fceil_of_isInf n⟩
  have hone : 0 < one := f.unitsOne_pos
  have hnear := ceilMag_near (fsign f a) (units f a) hone
  have hlow : units f a < ceilMag (fsign f a) (units f a) one * one + one := by split at hnear <;> omega
  have hup : ceilMag (fsign f a) (units f a) one * one < units f a + one := by split at hnear <;> omega
  obtain ⟨hfin, hsign, hunits⟩ := packFloat_integral ha hlow hup
  rw [fceil_of_isFinite n ha]
  refine ⟨hfin, hsign, if fsign f a then -(ceilMag (fsign f a) (units f a) one : Int)
    else ceilMag (fsign f a) (units f a) one, ?_⟩
  rw [sunits, sunits, hsign, hunits, show f.unitsOne = one from rfl]
  split_ifs at hnear ⊢
  · rw [Int.neg_mul]; omega
  · omega

/-! ## NaNs -/

/-- A pattern that, if it is a NaN, is a quiet one of the format. -/
def QuietIfNaN (f : SampleFormat) (r : Sample) : Prop :=
  isNaN f r = true → r.getLsbD (f.fracBits - 1) = true ∧ r.toNat < 2 ^ f.width

theorem quietIfNaN_of_not_isNaN {f : SampleFormat} {r : Sample} (h : isNaN f r = false) : QuietIfNaN f r :=
  fun hr => absurd hr (by simp [h])

theorem quietIfNaN_packFloat {f : SampleFormat} {neg : Bool} {m : Nat} (h : m ≤ f.infMag) :
    QuietIfNaN f (packFloat f neg m) :=
  quietIfNaN_of_not_isNaN (by rw [isNaN_packFloat (h.trans_lt f.infMag_lt)]; exact decide_eq_false (not_lt.2 h))

theorem quietIfNaN_drawNaN (n : Arith) (op : FloatOp) (a b : Sample) : QuietIfNaN n.format (drawNaN n op a b) := by
  refine fun _ => ⟨?_, drawNaN_lt n op a b⟩
  rw [BitVec.getLsbD, Nat.testBit_eq_decide_div_mod_eq, drawNaN, quietNaN, packFloat_toNat (quietMag_bounds _ _).2]
  refine decide_eq_true ?_
  cases n.format <;> simp only [SampleFormat.infMag, SampleFormat.fracBits, SampleFormat.signPlace] <;> split <;> omega

theorem quietIfNaN_addNonNaN (n : Arith) (op : FloatOp) {a b : Sample} (ha : isNaN n.format a = false)
    (hb : isNaN n.format b = false) : QuietIfNaN n.format (addNonNaN n op a b) := by
  simp only [addNonNaN]
  split_ifs
  · exact quietIfNaN_drawNaN n _ _ _
  · exact quietIfNaN_of_not_isNaN ha
  · exact quietIfNaN_of_not_isNaN hb
  · exact quietIfNaN_packFloat (Nat.zero_le _)
  · exact quietIfNaN_packFloat (roundMag_le ..)

theorem quietIfNaN_fadd (n : Arith) (a b : Sample) : QuietIfNaN n.format (fadd n a b) := by
  unfold fadd
  split_ifs with h
  · exact quietIfNaN_drawNaN n _ _ _
  · obtain ⟨ha, hb⟩ := Bool.or_eq_false_iff.1 (Bool.eq_false_iff.2 h)
    exact quietIfNaN_addNonNaN n _ ha hb

theorem quietIfNaN_fsub (n : Arith) (a b : Sample) : QuietIfNaN n.format (fsub n a b) := by
  unfold fsub
  split_ifs with h
  · exact quietIfNaN_drawNaN n _ _ _
  · obtain ⟨ha, hb⟩ := Bool.or_eq_false_iff.1 (Bool.eq_false_iff.2 h)
    exact quietIfNaN_addNonNaN n _ ha (isNaN_fneg hb)

theorem quietIfNaN_fmul (n : Arith) (a b : Sample) : QuietIfNaN n.format (fmul n a b) := by
  simp only [fmul]
  split_ifs
  · exact quietIfNaN_drawNaN n _ _ _
  · exact quietIfNaN_drawNaN n _ _ _
  · exact quietIfNaN_packFloat le_rfl
  · exact quietIfNaN_packFloat (roundMag_le ..)

theorem quietIfNaN_fdiv (n : Arith) (a b : Sample) : QuietIfNaN n.format (fdiv n a b) := by
  simp only [fdiv]
  split_ifs
  · exact quietIfNaN_drawNaN n _ _ _
  · exact quietIfNaN_drawNaN n _ _ _
  · exact quietIfNaN_packFloat le_rfl
  · exact quietIfNaN_packFloat (Nat.zero_le _)
  · exact quietIfNaN_drawNaN n _ _ _
  · exact quietIfNaN_packFloat le_rfl
  · exact quietIfNaN_packFloat (roundMag_le ..)

theorem quietIfNaN_fround (n : Arith) (ties : RoundTies) (a : Sample) : QuietIfNaN n.format (fround n ties a) := by
  simp only [fround]
  split_ifs with h
  · exact quietIfNaN_drawNaN n _ _ _
  · exact quietIfNaN_of_not_isNaN (Bool.eq_false_iff.2 h)
  · exact quietIfNaN_packFloat (roundMag_le ..)

theorem quietIfNaN_fceil (n : Arith) (a : Sample) : QuietIfNaN n.format (fceil n a) := by
  simp only [fceil]
  split_ifs with h
  · exact quietIfNaN_drawNaN n _ _ _
  · exact quietIfNaN_of_not_isNaN (Bool.eq_false_iff.2 h)
  · exact quietIfNaN_packFloat (roundMag_le ..)
  · exact quietIfNaN_packFloat (roundMag_le ..)

/-- With a NaN operand every primitive of two operands draws a NaN. -/
theorem binary_of_isNaN (n : Arith) {a b : Sample} (h : isNaN n.format a = true ∨ isNaN n.format b = true) :
    fadd n a b = drawNaN n .add a b ∧ fsub n a b = drawNaN n .sub a b ∧ fmul n a b = drawNaN n .mul a b ∧
      fdiv n a b = drawNaN n .div a b := by
  have hor : (isNaN n.format a || isNaN n.format b) = true := Bool.or_eq_true_iff.2 h
  simp only [fadd, fsub, fmul, fdiv, hor, if_true, and_self]

theorem unary_of_isNaN (n : Arith) (ties : RoundTies) {a : Sample} (h : isNaN n.format a = true) :
    fround n ties a = drawNaN n .round a a ∧ fceil n a = drawNaN n .ceil a a := by
  simp only [fround, fceil, h, if_true, and_self]

/-- Settles O59: every result is a drawn NaN, which is quiet, or no NaN, and a NaN operand has one drawn. -/
theorem naNsPropagateAndAreQuiet : Obligations.NaNsPropagateAndAreQuiet := by
  intro n ties a b f
  refine ⟨fun h => ?_, fun h => ?_, fun r hr => ?_⟩
  · obtain ⟨hadd, hsub, hmul, hdiv⟩ := binary_of_isNaN n h
    rw [hadd, hsub, hmul, hdiv]
    exact ⟨isNaN_drawNaN .., isNaN_drawNaN .., isNaN_drawNaN .., isNaN_drawNaN ..⟩
  · obtain ⟨hround, hceil⟩ := unary_of_isNaN n ties h
    rw [hround, hceil]
    exact ⟨isNaN_drawNaN .., isNaN_drawNaN ..⟩
  · have hall : ∀ r ∈ [fadd n a b, fsub n a b, fmul n a b, fdiv n a b, fround n ties a, fceil n a],
        QuietIfNaN f r := by
      simp only [List.forall_mem_cons]
      exact ⟨quietIfNaN_fadd n a b, quietIfNaN_fsub n a b, quietIfNaN_fmul n a b, quietIfNaN_fdiv n a b,
        quietIfNaN_fround n ties a, quietIfNaN_fceil n a, by simp⟩
    exact hall r hr

/-! ## Comparisons -/

/-- The order of the patterns is the order of the values. -/
theorem orderKey_lt_iff (f : SampleFormat) (a b : Sample) : orderKey f a < orderKey f b ↔ sunits f a < sunits f b := by
  have hlt := (magUnits_strictMono f).lt_iff_lt (a := fmag f a) (b := fmag f b)
  have hgt := (magUnits_strictMono f).lt_iff_lt (a := fmag f b) (b := fmag f a)
  have ha := (magUnits_strictMono f).lt_iff_lt (a := 0) (b := fmag f a)
  have hb := (magUnits_strictMono f).lt_iff_lt (a := 0) (b := fmag f b)
  rw [magUnits_zero] at ha hb
  simp only [orderKey, sunits, units_eq_magUnits]
  split_ifs <;> omega

theorem orderKey_eq_iff (f : SampleFormat) (a b : Sample) : orderKey f a = orderKey f b ↔ sunits f a = sunits f b := by
  have hab := orderKey_lt_iff f a b
  have hba := orderKey_lt_iff f b a
  omega

/-- Settles O60: the patterns' order key is monotone in the value, and every comparison with a NaN is false. -/
theorem comparisonsAreOfValues : Obligations.ComparisonsAreOfValues := by
  refine fun f a b => ⟨?_, fun ha hb => ?_⟩
  · rintro (h | h) <;> simp [flt, feq, h]
  · simp [flt, feq, isNaN_of_isFinite ha, isNaN_of_isFinite hb, orderKey_lt_iff, orderKey_eq_iff]

end Sys2Proof.Machine
end

section
/-! SUPPORT. Every command as its checks and its effect, and what one step can do to the stores. -/

namespace Sys2Proof.Machine

open Sys2Proof Claims

/-! ## Commands as checks and effects -/

/-- The checks a command makes on the state before it, in the order tested. -/
def checksOf (i : Instr) (s : State) : List (Bool × FaultCode) :=
  match i with
  | .nop => []
  | .csc _ a => cscChecks a s
  | .lpf _ a => lpfChecks a s
  | .mest a b => mestChecks a b s
  | .delta _ a b => deltaChecks a b s
  | .subs _ a => subsChecks a s
  | .dct _ a => blockedChecks (s.plane a)
  | .quant _ a => quantChecks a s
  | .dcpred _ a => blockedChecks (s.plane a)
  | .zigzag _ a => blockedChecks (s.plane a)
  | .tokens _ a => tokensChecks a s
  | .copy _ a => copyChecks a s
  | .pdef _ _ => pdefChecks s
  | .frame => frameChecks s
  | .endseq => []

/-- What a command does once its checks have passed, less the command count. -/
def effectOf (i : Instr) (s : State) : State :=
  match i with
  | .nop => s
  | .csc d a => cscEffect d a s
  | .lpf d a => lpfEffect d a s
  | .mest a b => mestEffect a b s
  | .delta d a b => deltaEffect d a b s
  | .subs d a => subsEffect d a s
  | .dct d a => dctEffect d a s
  | .quant d a => quantEffect d a s
  | .dcpred d a => dcpredEffect d a s
  | .zigzag d a => zigzagEffect d a s
  | .tokens t a => tokensEffect t a s
  | .copy d a => copyEffect d a s
  | .pdef d tag => pdefEffect d tag s
  | .frame => frameEffect s
  | .endseq => endseqEffect s

theorem exec_eq_runCommand (i : Instr) (s : State) : exec i s = runCommand i (checksOf i s) (effectOf i) s := by
  cases i <;> rfl

/-- Everything a command can do: nothing while halted, a fault with three fields changed, or its effect and the count. -/
theorem exec_cases {i : Instr} {s t : State} (h : exec i s = .next t) :
    (s.fault = true ∧ t = s) ∨
    (s.fault = false ∧ ∃ code, (false, code) ∈ legalWord i :: checksOf i s ∧ t = s.raiseFault code (encode i)) ∨
    (s.fault = false ∧ (∀ c ∈ legalWord i :: checksOf i s, c.1 = true) ∧ t = (effectOf i s).countCommand) :=
  runCommand_cases (exec_eq_runCommand i s ▸ h)

/-! ## Accesses -/

theorem legalAccess_of_regAt {off : Nat} {r : Reg} (h : regAt off = some r) : legalAccess off 4 = true := by
  unfold regAt at h
  split at h <;> first | rfl | cases h

/-- The read of a register that leaves the state as it is. -/
theorem step_read {s : State} {rest : List HostEvent} {off : Nat} {r : Reg} {x : Word}
    (hhost : s.host = .read off 4 :: rest) (hreg : regAt off = some r)
    (hread : readReg r (s.popHost rest) = (x, s.popHost rest)) :
    step s = .next (afterAccess s rest (.data x)) := by
  simp only [step, hhost, hostEvent, legalAccess_of_regAt hreg, if_true, readWindow, hreg, hread]
  rfl

theorem step_write {s : State} {rest : List HostEvent} {off : Nat} {r : Reg} {v : Word}
    (hhost : s.host = .write off 4 v :: rest) (hreg : regAt off = some r) :
    step s = writeReg r v (afterAccess s rest .done) := by
  simp only [step, hhost, hostEvent, legalAccess_of_regAt hreg, if_true, writeWindow, hreg]
  rfl

/-! ## What a step can do to the parameters, the stores and the fault registers -/

/-- The parameters, the stores and the fault registers are unchanged: everything that `State.wf` speaks of. -/
structure StoresSame (s t : State) : Prop where
  params : t.params = s.params
  planes : t.planes = s.planes
  mvb : t.mvb = s.mvb
  tokens : t.tokens = s.tokens
  fault : t.fault = s.fault
  err : t.err = s.err
  fcmd : t.fcmd = s.fcmd

theorem StoresSame.refl (s : State) : StoresSame s s := ⟨rfl, rfl, rfl, rfl, rfl, rfl, rfl⟩

theorem StoresSame.trans {s t u : State} (h : StoresSame s t) (h' : StoresSame t u) : StoresSame s u :=
  ⟨h'.params.trans h.params, h'.planes.trans h.planes, h'.mvb.trans h.mvb, h'.tokens.trans h.tokens,
    h'.fault.trans h.fault, h'.err.trans h.err, h'.fcmd.trans h.fcmd⟩

theorem StoresSame.popHost (s : State) (rest : List HostEvent) : StoresSame s (s.popHost rest) :=
  ⟨rfl, rfl, rfl, rfl, rfl, rfl, rfl⟩

theorem StoresSame.answer {s t : State} (h : StoresSame s t) (r : BusReply) : StoresSame s (t.answer r) :=
  ⟨h.params, h.planes, h.mvb, h.tokens, h.fault, h.err, h.fcmd⟩

theorem StoresSame.wf {s t : State} (h : StoresSame s t) (hs : s.wf) : t.wf := by
  obtain ⟨hparams, hplanes, hmvb, htokens, hfault, herr, hfcmd⟩ := h
  simpa only [State.wf, State.faultWf, State.plane, State.token, hparams, hplanes, hmvb, htokens, hfault, herr,
    hfcmd] using hs

theorem readReg_storesSame (r : Reg) (s : State) : StoresSame s (readReg r s).2 := by
  cases r
  case pdata => simp only [readReg, readPdata]; split <;> exact ⟨rfl, rfl, rfl, rfl, rfl, rfl, rfl⟩
  case mvdata => simp only [readReg, readMvdata]; split <;> exact ⟨rfl, rfl, rfl, rfl, rfl, rfl, rfl⟩
  case tkdata => simp only [readReg, readTkdata]; split <;> exact ⟨rfl, rfl, rfl, rfl, rfl, rfl, rfl⟩
  all_goals exact .refl s

theorem readWindow_storesSame (off : Nat) (s : State) : StoresSame s (readWindow off s).2 := by
  unfold readWindow
  split
  · exact readReg_storesSame _ s
  · exact .refl s

/-- The ways a step can go, by what becomes of the stores: `u` is the state with the access taken from the queue. -/
inductive StoresStep (s t : State) : Prop
  /-- no access, a read, or a write of a register that is not a store -/
  | same (h : StoresSame s t)
  /-- a command -/
  | command (u : State) (i : Instr) (hu : StoresSame s u) (h : exec i u = .next t)
  /-- an illegal word, or a sample for a plane that is not `LOADING` -/
  | fault (u : State) (code : FaultCode) (c : Word) (hu : StoresSame s u) (hcode : code = .illegal ∨ code = .load)
      (h : t = u.raiseFault code c)
  /-- one sample of a `LOADING` plane -/
  | load (u : State) (v : Word) (hu : StoresSame s u) (hl : u.selPlane.state = .loading)
      (h : t = u.setPlane u.psel (u.selPlane.append (ffrom u.params.format v)))
  /-- either reset -/
  | reset (u : State) (hu : StoresSame s u) (h : StoresSame u.engineReset t)

theorem writeReg_storesStep {s u t : State} {r : Reg} {v : Word} (hu : StoresSame s u)
    (h : writeReg r v u = .next t) : StoresStep s t := by
  cases r
  case cmd =>
    simp only [writeReg, writeCmd] at h
    split at h
    · cases h; exact .same hu
    · split at h
      · exact .command u _ hu h
      · cases h; exact .fault u _ _ hu (.inl rfl) rfl
  case ctrl =>
    simp only [writeReg, writeCtrl] at h
    split at h
    · cases h; exact .reset u hu (.refl _)
    · cases h; exact .same hu
  case pdata =>
    simp only [writeReg, writePdata] at h
    split at h
    · cases h; exact .same hu
    · split at h
      · cases h; exact .fault u _ _ hu (.inr rfl) rfl
      · next hl => cases h; exact .load u v hu (not_not.mp hl) rfl
  all_goals
    cases h
    exact .same ⟨hu.params, hu.planes, hu.mvb, hu.tokens, hu.fault, hu.err, hu.fcmd⟩

/-- What a step can do to the stores. -/
theorem step_storesStep {s t : State} (h : step s = .next t) : StoresStep s t := by
  unfold step at h
  split at h
  · cases h; exact .same (.refl s)
  next e rest _ =>
    have hpop := StoresSame.popHost s rest
    cases e with
    | read off size =>
      simp only [hostEvent] at h
      split at h
      · cases h
        exact .same ((hpop.trans (readWindow_storesSame off _)).answer _)
      · cases h; exact .same (hpop.answer _)
    | write off size v =>
      simp only [hostEvent, writeWindow] at h
      split at h
      · split at h
        · exact writeReg_storesStep (hpop.answer _) h
        · cases h; exact .same (hpop.answer _)
      · cases h; exact .same (hpop.answer _)
    | hardReset =>
      simp only [hostEvent] at h
      cases h
      exact .reset _ hpop ((StoresSame.refl _).answer _)

end Sys2Proof.Machine
end

section
/-! THEOREM. Reset, and the registers as the window shows them (spec/10_state.md R23 to R43). -/

namespace Sys2Proof

open Machine Claims

theorem Tag.code_inj {a b : Tag} : a.code = b.code ↔ a = b := by
  cases a <;> cases b <;> decide

theorem Tag.code_lt (t : Tag) : t.code < 4 := by cases t <;> decide

namespace Machine

/-! ## Reset -/

theorem State.reset_plane (k : Nat) : State.reset.plane k = Plane.empty := State.engineReset_plane State.reset k

theorem State.reset_token (k : Nat) : State.reset.token k = TokenBuf.empty := State.engineReset_token State.reset k

/-- Settles O1: the registers by evaluation, the planes and token registers as copies of the empty ones. -/
theorem resetLeavesTheTableOfR43 : Obligations.ResetLeavesTheTableOfR43 := by
  have hplanes (i : Fin 32) : (State.reset.plane i).state = .empty ∧ (State.reset.plane i).w = 0 ∧
      (State.reset.plane i).h = 0 ∧ (State.reset.plane i).tag = .fullsize ∧ (State.reset.plane i).fill = 0 := by
    rw [State.reset_plane]
    exact ⟨rfl, rfl, rfl, rfl, rfl⟩
  have htokens (t : Fin 4) : (State.reset.token t).valid = false ∧ (State.reset.token t).len = 0 := by
    rw [State.reset_token]
    exact ⟨rfl, rfl⟩
  exact ⟨rfl, rfl, rfl, rfl, rfl, rfl, rfl, rfl, rfl, rfl, rfl, rfl, rfl, rfl, rfl, rfl, rfl, rfl, rfl, rfl, rfl, hplanes,
    rfl, rfl, rfl, htokens⟩

/-! ## Plain registers -/

/-- Settles O11: each offset names its register, and the write of it is a record update. -/
theorem registerWritesChangeThatRegisterOnly : Obligations.RegisterWritesChangeThatRegisterOnly := by
  intro s rest off v hhost
  refine ⟨?width, ?height, ?quality, ?ifreq, ?psel, ?paddr, ?mvaddr, ?tksel, ?tkaddr⟩
  case psel => rintro rfl; exact ⟨Fin.ofNat 32 v.toNat, rfl, step_write hhost rfl⟩
  case tksel => rintro rfl; exact ⟨Fin.ofNat 4 v.toNat, rfl, step_write hhost rfl⟩
  all_goals rintro rfl; exact step_write hhost rfl

/-- Settles O12: each offset names its register, whose read answers it and leaves the state. -/
theorem registerReadsAnswerTheirRegister : Obligations.RegisterReadsAnswerTheirRegister := by
  intro s rest off hhost
  refine ⟨?id, ?width, ?height, ?quality, ?ifreq, ?blockOrWindow, ?frameidx, ?cmdcount, ?fcmd, ?psel, ?paddr, ?mvaddr,
    ?tksel, ?tkaddr⟩
  case blockOrWindow => rintro (rfl | rfl) <;> exact step_read hhost rfl rfl
  all_goals rintro rfl; exact step_read hhost rfl rfl

/-! ## Views -/

theorem FaultCode.code_inj {a b : FaultCode} : a.code = b.code ↔ a = b := by
  cases a <;> cases b <;> decide

theorem FaultCode.code_le (e : FaultCode) : e.code ≤ 8 := by cases e <;> decide

theorem PlaneState.code_inj {a b : PlaneState} : a.code = b.code ↔ a = b := by
  cases a <;> cases b <;> decide

/-- A one-bit field of a word, as the sum of the other fields shows it. -/
theorem getLsbD_ofNat_eq {n i : Nat} {b : Bool} (hi : i < 32) (h : n / 2 ^ i % 2 = b.toNat) :
    (BitVec.ofNat 32 n).getLsbD i = b := by
  rw [BitVec.getLsbD_ofNat, Nat.testBit_eq_decide_div_mod_eq, h]
  cases b <;> simp [hi]

theorem slice_ofNat {n lo len : Nat} (hn : n < 2 ^ 32) : slice (BitVec.ofNat 32 n) lo len = n / 2 ^ lo % 2 ^ len := by
  rw [slice, BitVec.toNat_ofNat, Nat.mod_eq_of_lt hn]

/-- The fields of `STATUS` (spec/10_state.md R25). -/
theorem statusWord_fields (s : State) :
    s.statusWord.getLsbD 0 = s.fault ∧ s.statusWord.getLsbD 1 = s.havePrev ∧
      (s.statusWord.getLsbD 2 = true ↔ s.ftype = .pFrame) ∧ s.statusWord.getLsbD 3 = s.mvb.valid ∧
      slice s.statusWord 4 4 = 0 ∧ slice s.statusWord 12 20 = 0 ∧ slice s.statusWord 8 4 = s.err.code := by
  have hfault := s.fault.toNat_lt
  have hprev := s.havePrev.toNat_lt
  have hvalid := s.mvb.valid.toNat_lt
  have herr := s.err.code_le
  have hftype : s.ftype.code = (decide (s.ftype = .pFrame)).toNat := by cases s.ftype <;> rfl
  have hftype' := (decide (s.ftype = .pFrame)).toNat_lt
  unfold State.statusWord
  rw [hftype]
  refine ⟨getLsbD_ofNat_eq (by decide) (by omega), getLsbD_ofNat_eq (by decide) (by omega), ?_,
    getLsbD_ofNat_eq (by decide) (by omega), ?_, ?_, ?_⟩
  · rw [getLsbD_ofNat_eq (b := decide (s.ftype = .pFrame)) (by decide) (by omega), decide_eq_true_iff]
  all_goals rw [slice_ofNat (by omega)]; omega

/-- The fields of `PINFO` of a plane that is not `EMPTY` (spec/10_state.md R36). -/
theorem Plane.infoWord_fields {p : Plane} (h : p.state ≠ .empty) :
    slice p.infoWord 0 2 = p.state.code ∧ slice p.infoWord 2 2 = p.tag.code ∧ slice p.infoWord 4 28 = 0 := by
  have hstate : p.state.code < 4 := by cases p.state <;> decide
  have htag := p.tag.code_lt
  rw [Plane.infoWord, if_neg h]
  refine ⟨?_, ?_, ?_⟩ <;> rw [slice_ofNat (by omega)] <;> omega

theorem Plane.shown_empty {p : Plane} (n : Nat) (h : p.state = .empty) : p.shown n = 0 := if_pos h

theorem Plane.shown_of_ne {p : Plane} (n : Nat) (h : p.state ≠ .empty) : p.shown n = BitVec.ofNat 32 n := if_neg h

/-- The fields of `MVINFO` and `TKINFO` (spec/10_state.md R38, R40). -/
theorem infoWord_fields (valid : Bool) (n : Nat) :
    (infoWord valid n).getLsbD 31 = valid ∧ (valid = false → infoWord valid n = 0) ∧
      (valid = true → n < 2 ^ 31 → slice (infoWord valid n) 0 31 = n) := by
  cases valid with
  | false => simp [infoWord]
  | true =>
    have hcount := Nat.mod_lt n (show 0 < 2 ^ 31 by decide)
    simp only [infoWord, if_true]
    refine ⟨getLsbD_ofNat_eq (by decide) ?_, by simp, fun _ hn => ?_⟩
    · rw [Bool.toNat_true]; omega
    · rw [slice_ofNat (by omega)]; omega

/-- Settles O13: each offset names its view, whose word has the fields above; the clauses of the other offsets are void. -/
theorem statusViewsShowTheirFields : Obligations.StatusViewsShowTheirFields := by
  intro s rest off hhost hoff
  have hshown (n : Nat) := s.selPlane.shown_empty n
  have hshown' (n : Nat) := s.selPlane.shown_of_ne n
  fin_cases hoff
  · -- `STATUS`
    obtain ⟨hfault, hprev, hftype, hvalid, hlow, hhigh, herr⟩ := statusWord_fields s
    have hcode (e : FaultCode) : slice s.statusWord 8 4 = e.code ↔ s.err = e := herr ▸ FaultCode.code_inj
    refine ⟨s.statusWord, step_read hhost rfl rfl, fun _ => ⟨hfault, hprev, hftype, hvalid, hlow, hhigh, hcode .none,
      hcode .illegal, hcode .unwritten, hcode .tag, hcode .shape, hcode .config, hcode .resource, hcode .load,
      hcode .backend⟩, ?_⟩
    simp
  · -- `PW`
    refine ⟨s.selPlane.shown s.selPlane.w, step_read hhost rfl rfl, by simp, fun h _ => hshown _ h,
      fun h => ⟨fun _ => hshown' _ h, ?_⟩, ?_⟩ <;> simp
  · -- `PH`
    refine ⟨s.selPlane.shown s.selPlane.h, step_read hhost rfl rfl, by simp, fun h _ => hshown _ h,
      fun h => ⟨by simp, fun _ => hshown' _ h, ?_⟩, ?_⟩ <;> simp
  · -- `PINFO`
    refine ⟨s.selPlane.infoWord, step_read hhost rfl rfl, by simp, fun h _ => if_pos h,
      fun h => ⟨by simp, by simp, by simp, fun _ => ?_⟩, by simp, by simp⟩
    obtain ⟨hstate, htag, hhigh⟩ := Plane.infoWord_fields (p := s.selPlane) h
    have hstates (e : PlaneState) : slice s.selPlane.infoWord 0 2 = e.code ↔ s.selPlane.state = e :=
      hstate ▸ PlaneState.code_inj
    have htags (e : Tag) : slice s.selPlane.infoWord 2 2 = e.code ↔ s.selPlane.tag = e := htag ▸ Tag.code_inj
    exact ⟨hstates .loading, hstates .valid, htags .fullsize, htags .downsample, htags .dcdiff, htags .zigzag, hhigh⟩
  · -- `PFILL`
    refine ⟨s.selPlane.shown s.selPlane.fill, step_read hhost rfl rfl, by simp, fun h _ => hshown _ h,
      fun h => ⟨by simp, by simp, fun _ => hshown' _ h, ?_⟩, ?_⟩ <;> simp
  · -- `MVINFO`
    exact ⟨s.mvb.infoWord, step_read hhost rfl rfl, by simp, by simp, by simp,
      fun _ => infoWord_fields s.mvb.valid s.mvb.count, by simp⟩
  · -- `TKINFO`
    exact ⟨s.selToken.infoWord, step_read hhost rfl rfl, by simp, by simp, by simp, by simp,
      fun _ => infoWord_fields s.selToken.valid s.selToken.len⟩

end Machine
end Sys2Proof
end

section
/-! THEOREM. What no step, no command, and only the named commands change (spec/10_state.md R25 to R42,
spec/70_reset_and_hazards.md R185). -/

namespace Sys2Proof.Machine

open Sys2Proof Claims

/-! ## The host's side of the state -/

theorem hostSideSame_refl (s : State) : hostSideSame s s :=
  ⟨rfl, rfl, rfl, rfl, rfl, rfl, rfl, rfl, rfl, rfl, rfl, rfl⟩

theorem hostSideSame_trans {s t u : State} (h : hostSideSame s t) (h' : hostSideSame t u) : hostSideSame s u := by
  unfold hostSideSame at *
  simp only [h', h, and_self]

theorem params_eq_of_hostSideSame {s t : State} (h : hostSideSame s t) : t.params = s.params := by
  obtain ⟨-, -, -, -, -, -, -, -, -, hparams, -⟩ := h
  exact hparams

theorem raiseFault_hostSideSame (s : State) (code : FaultCode) (c : Word) : hostSideSame s (s.raiseFault code c) := by
  simp [hostSideSame]

theorem countCommand_hostSideSame (s : State) : hostSideSame s s.countCommand := by simp [hostSideSame]

/-- The steps of `FRAME` (spec/49_frame_control.md R149), one after another. -/
theorem frameEffect_hostSideSame (s : State) : hostSideSame s (frameEffect s) := by
  have invalidate (s : State) : hostSideSame s (frameInvalidate s) := by simp [hostSideSame, frameInvalidate]
  have smooth (s : State) : hostSideSame s (frameSmooth s) := by
    simp [hostSideSame, frameSmooth, cscEffect, copyEffect, lpfEffect]
  have predict (p : Bool) (s : State) : hostSideSame s (framePredict p s) := by
    cases p <;> simp [hostSideSame, framePredict, copyEffect, mestEffect, deltaEffect]
  have subsample (s : State) : hostSideSame s (frameSubsample s) := by
    simp [hostSideSame, frameSubsample, subsEffect]
  have transform (s : State) : hostSideSame s (frameTransform s) := by
    simp [hostSideSame, frameTransform, dctEffect]
  have quantise (s : State) : hostSideSame s (frameQuantise s) := by
    simp [hostSideSame, frameQuantise, quantEffect]
  have predictDc (s : State) : hostSideSame s (framePredictDc s) := by
    simp [hostSideSame, framePredictDc, dcpredEffect]
  have scan (s : State) : hostSideSame s (frameScan s) := by simp [hostSideSame, frameScan, zigzagEffect]
  have tokens (s : State) : hostSideSame s (frameTokens s) := by simp [hostSideSame, frameTokens, tokensEffect]
  have carry (s : State) : hostSideSame s (frameCarry s) := by simp [hostSideSame, frameCarry, copyEffect]
  have finish (p : Bool) (s : State) : hostSideSame s (frameFinish p s) := by simp [hostSideSame, frameFinish]
  exact hostSideSame_trans (invalidate s) <| hostSideSame_trans (smooth _) <| hostSideSame_trans (predict _ _) <|
    hostSideSame_trans (subsample _) <| hostSideSame_trans (transform _) <| hostSideSame_trans (quantise _) <|
    hostSideSame_trans (predictDc _) <| hostSideSame_trans (scan _) <| hostSideSame_trans (tokens _) <|
    hostSideSame_trans (carry _) (finish _ _)

theorem effectOf_hostSideSame (i : Instr) (s : State) : hostSideSame s (effectOf i s) := by
  cases i <;> simp only [effectOf]
  case frame => exact frameEffect_hostSideSame s
  case nop => exact hostSideSame_refl s
  all_goals
    simp [hostSideSame, cscEffect, lpfEffect, mestEffect, deltaEffect, subsEffect, dctEffect, quantEffect, dcpredEffect,
      zigzagEffect, tokensEffect, copyEffect, pdefEffect, endseqEffect]

/-- Settles O53: a command that faults writes the fault registers, one that completes its destinations. -/
theorem noCommandWritesHostRegisters : Obligations.NoCommandWritesHostRegisters := by
  intro i s t h
  rcases exec_cases h with ⟨-, rfl⟩ | ⟨-, code, -, rfl⟩ | ⟨-, -, rfl⟩
  · exact hostSideSame_refl t
  · exact raiseFault_hostSideSame s code _
  · exact hostSideSame_trans (effectOf_hostSideSame i s) (countCommand_hostSideSame _)

/-- Settles O52, by the ways a step can go. -/
theorem noStepChangesTheParameters : Obligations.NoStepChangesTheParameters := by
  intro s t h
  cases step_storesStep h with
  | same hsame => exact hsame.params
  | command u i hu hexec =>
    exact (params_eq_of_hostSideSame (noCommandWritesHostRegisters i u t hexec)).trans hu.params
  | fault u code c hu _ ht => subst ht; exact hu.params
  | load u v hu _ ht => subst ht; exact hu.params
  | reset u hu hreset => exact hreset.params.trans hu.params

/-! ## The sequence state -/

/-- What O54 says, of the effect of a command alone. -/
theorem effectOf_sequenceState (i : Instr) (s : State) :
    (i ≠ .frame → i ≠ .endseq → (effectOf i s).havePrev = s.havePrev ∧ (effectOf i s).frameIdx = s.frameIdx) ∧
      (i ≠ .frame → (effectOf i s).ftype = s.ftype) ∧
      (i ≠ .frame → i ≠ .endseq → (∀ a b, i ≠ .mest a b) → (effectOf i s).mvb = s.mvb) ∧
      (i ≠ .frame → (∀ r a, i ≠ .tokens r a) → (effectOf i s).tokens = s.tokens) := by
  cases i <;> simp only [effectOf]
  case frame => simp
  case endseq => simp [endseqEffect]
  case mest => simp [mestEffect]
  case tokens => simp [tokensEffect]
  all_goals
    simp [cscEffect, lpfEffect, deltaEffect, subsEffect, dctEffect, quantEffect, dcpredEffect, zigzagEffect, copyEffect,
      pdefEffect]

/-- Settles O54: a fault leaves all of it, and so does the count of a command that completes. -/
theorem onlyTheNamedCommandsChangeSequenceState : Obligations.OnlyTheNamedCommandsChangeSequenceState := by
  intro i s t h
  rcases exec_cases h with ⟨-, rfl⟩ | ⟨-, code, -, rfl⟩ | ⟨-, -, rfl⟩
  · simp
  · simp
  · exact effectOf_sequenceState i s

end Sys2Proof.Machine
end

section
/-! SUPPORT. The effect of each command keeps the form of the stores, and which `VALID` planes are known after it. -/

namespace Sys2Proof.Machine

open Sys2Proof Claims

/-! ## Every register keeps the form -/

theorem State.plane_wf {s : State} (h : s.wf) (k : Nat) : (s.plane k).wf s.params := by
  obtain ⟨-, hplanes, -⟩ := h
  by_cases hk : k < 32
  · exact hplanes ⟨k, hk⟩
  · have hempty : s.plane k = Plane.empty := by simp [State.plane, hk]
    exact hempty ▸ Plane.empty_wf s.params

theorem State.setToken_wf {s : State} {b : TokenBuf} (t : Nat) (h : s.wf) (hb : b.wf s.params.planeCap) :
    (s.setToken t b).wf := by
  obtain ⟨hparams, hplanes, hmvb, htokens, hfault⟩ := h
  refine ⟨hparams, hplanes, hmvb, fun k => ?_, hfault⟩
  by_cases hk : t = k
  · subst hk; rw [State.token_setToken_self s b k.isLt]; exact hb
  · rw [State.token_setToken_ne s b hk]; exact htokens k

theorem State.token_wf {s : State} (h : s.wf) (t : Nat) : (s.token t).wf s.params.planeCap := by
  obtain ⟨-, -, -, htokens, -⟩ := h
  by_cases ht : t < 4
  · exact htokens ⟨t, ht⟩
  · have hempty : s.token t = TokenBuf.empty := by simp [State.token, ht]
    rw [hempty]
    simp [TokenBuf.wf, TokenBuf.empty]

theorem State.invalidateToken_wf {s : State} (t : Nat) (h : s.wf) : (s.invalidateToken t).wf :=
  State.setToken_wf t h (TokenBuf.invalidate_wf (State.token_wf h t))

theorem State.invalidateMvb_wf {s : State} (h : s.wf) : s.invalidateMvb.wf := by
  have ⟨_, _, hmvb, _⟩ := h
  exact State.setMvb_wf h (MvBuffer.invalidate_wf hmvb)

theorem State.emptyPlanes_wf {s : State} {i n : Nat} (h : s.wf) (hi : i + n ≤ 32) : (s.emptyPlanes i n).wf := by
  induction n with
  | zero => exact h
  | succ n ih => exact State.setPlane_wf (ih (by omega)) (by omega) (Plane.empty_wf _)

/-! ## Known planes -/

/-- A `VALID` plane of that size. -/
def Plane.Sized (p : Plane) (w h : Nat) : Prop := p.state = .valid ∧ p.w = w ∧ p.h = h

/-- The size and the fill of a `VALID` plane that has the form. -/
theorem Plane.Sized.bounds {prm : Params} {p : Plane} {w h : Nat} (hp : p.Sized w h) (hwf : p.wf prm) :
    1 ≤ w ∧ 1 ≤ h ∧ w * h ≤ prm.planeCap ∧ p.fill = w * h := by
  obtain ⟨hvalid, rfl, rfl⟩ := hp
  obtain ⟨-, hcap, -, -, hfull, -⟩ := hwf
  obtain ⟨hw, hh, hfill⟩ := hfull hvalid
  exact ⟨hw, hh, hcap, hfill⟩

/-- The state has the form, and the plane registers listed as `(number, w, h)` are `VALID` and of that size; the first
entry of a number counts, so that a write is an entry in front. -/
structure Known (ps : List (Nat × Nat × Nat)) (s : State) : Prop where
  wf : s.wf
  sized : ∀ {k w h : Nat}, ps.lookup k = some (w, h) → (s.plane k).Sized w h

theorem Known.bounds {ps : List (Nat × Nat × Nat)} {s : State} {k w h : Nat} (hs : Known ps s)
    (hk : ps.lookup k = some (w, h)) : 1 ≤ w ∧ 1 ≤ h ∧ w * h ≤ s.params.planeCap ∧ (s.plane k).fill = w * h :=
  (hs.sized hk).bounds (State.plane_wf hs.wf k)

/-- The front entry counts for its number, the rest for the others. -/
theorem lookup_cons_eq_some {k d w h w' h' : Nat} {ps : List (Nat × Nat × Nat)} :
    List.lookup k ((d, w, h) :: ps) = some (w', h') ↔
      (k = d ∧ w = w' ∧ h = h') ∨ (k ≠ d ∧ ps.lookup k = some (w', h')) := by
  by_cases hk : k = d
  · simp [hk]
  · simp [List.lookup_cons, beq_false_of_ne hk, hk]

/-- Part of what is known. -/
theorem Known.weaken {ps qs : List (Nat × Nat × Nat)} {s : State} (hs : Known ps s)
    (h : ∀ q ∈ qs, ps.lookup q.1 = some q.2) : Known qs s := by
  refine ⟨hs.wf, fun {k w h'} hk => hs.sized ?_⟩
  obtain ⟨l, r, hq, -⟩ := List.lookup_eq_some_iff.mp hk
  exact h (k, w, h') (hq ▸ by simp)

theorem Known.nil {s : State} (hs : s.wf) : Known [] s := ⟨hs, by simp⟩

/-- One more `VALID` plane is known. -/
theorem Known.cons {ps : List (Nat × Nat × Nat)} {s : State} {a w h : Nat} (hs : Known ps s)
    (ha : (s.plane a).Sized w h) : Known ((a, w, h) :: ps) s := by
  refine ⟨hs.wf, fun {k w' h'} hk => ?_⟩
  rcases lookup_cons_eq_some.mp hk with ⟨rfl, rfl, rfl⟩ | ⟨-, hk'⟩
  · exact ha
  · exact hs.sized hk'

theorem Known.of_valid {s : State} {a : Nat} (hs : s.wf) (ha : (s.plane a).state = .valid) :
    Known [(a, (s.plane a).w, (s.plane a).h)] s := (Known.nil hs).cons ⟨ha, rfl, rfl⟩

section Effects

variable {ps : List (Nat × Nat × Nat)} {s : State} {d a w h : Nat}

theorem Known.nextDraw (hs : Known ps s) : Known ps s.nextDraw := ⟨State.nextDraw_wf hs.wf, hs.sized⟩

theorem Known.setPlane {p : Plane} (hs : Known ps s) (hd : d < 32) (hp : p.wf s.params) (hsize : p.Sized w h) :
    Known ((d, w, h) :: ps) (s.setPlane d p) := by
  refine ⟨State.setPlane_wf hs.wf hd hp, fun {k w' h'} hk => ?_⟩
  rw [State.plane_setPlane s k p hd]
  rcases lookup_cons_eq_some.mp hk with ⟨rfl, rfl, rfl⟩ | ⟨hne, hk'⟩
  · rwa [if_pos rfl]
  · rw [if_neg hne.symm]
    exact hs.sized hk'

theorem Known.setTriple {p q r : Plane} (hs : Known ps s) (hd : d + 2 < 32)
    (hp : p.wf s.params) (hq : q.wf s.params) (hr : r.wf s.params)
    (hp' : p.Sized w h) (hq' : q.Sized w h) (hr' : r.Sized w h) :
    Known ((d + 2, w, h) :: (d + 1, w, h) :: (d, w, h) :: ps) (s.setTriple d p q r) :=
  ((hs.setPlane (by omega) hp hp').setPlane (by omega) hq hq').setPlane hd hr hr'

/-! ## Stages that write planes -/

theorem cscPlane_wf {f : Sample → Sample → Sample → Sample} (hs : s.wf) (ha : (s.plane a).Sized w h)
    (hf : ∀ x y z, (f x y z).toNat < 2 ^ s.params.format.width) :
    (cscPlane f s a).wf s.params ∧ (cscPlane f s a).Sized w h := by
  obtain ⟨hw, hh, hcap, -⟩ := ha.bounds (State.plane_wf hs a)
  obtain ⟨-, rfl, rfl⟩ := ha
  exact ⟨Plane.buildIdx_wf _ hw hh hcap fun _ _ => hf _ _ _, rfl, rfl, rfl⟩

theorem Known.csc (hs : Known ps s) (hd : d + 2 < 32) (ha : ps.lookup a = some (w, h)) :
    Known ((d + 2, w, h) :: (d + 1, w, h) :: (d, w, h) :: ps) (cscEffect d a s) := by
  obtain ⟨hy, hy'⟩ := cscPlane_wf (f := cscY s.arith) hs.wf (hs.sized ha) fun _ _ _ => fadd_lt ..
  obtain ⟨hcb, hcb'⟩ := cscPlane_wf (f := cscCb s.arith) hs.wf (hs.sized ha) fun _ _ _ => fadd_lt ..
  obtain ⟨hcr, hcr'⟩ := cscPlane_wf (f := cscCr s.arith) hs.wf (hs.sized ha) fun _ _ _ => fsub_lt ..
  exact (hs.setTriple hd hy hcb hcr hy' hcb' hcr').nextDraw

theorem lpfHorizontal_lt {n : Arith} {p : Plane} (hp : ∀ x y, (p.sample x y).toNat < 2 ^ n.format.width) (x y : Nat) :
    (lpfHorizontal n p x y).toNat < 2 ^ n.format.width := by
  unfold lpfHorizontal
  split
  · exact fadd_lt ..
  · exact hp x y

theorem lpfVertical_lt (vpass : LpfVpass) {n : Arith} {p : Plane}
    (hp : ∀ x y, (p.sample x y).toNat < 2 ^ n.format.width) (x y : Nat) :
    (lpfVertical vpass n p x y).toNat < 2 ^ n.format.width := by
  cases y with
  | zero => exact lpfHorizontal_lt hp x 0
  | succ y =>
    simp only [lpfVertical]
    split
    · exact fadd_lt ..
    · exact lpfHorizontal_lt hp x (y + 1)

/-- A built plane with the source's size, in place of `d`. -/
theorem Known.setBuild {f : Nat → Nat → Sample} (tag : Tag) (hs : Known ps s) (hd : d < 32)
    (ha : ps.lookup a = some (w, h)) (hf : ∀ x y, (f x y).toNat < 2 ^ s.params.format.width) :
    Known ((d, w, h) :: ps) (s.setPlane d (Plane.build (s.plane a).w (s.plane a).h tag f)) := by
  obtain ⟨hw, hh, hcap, -⟩ := hs.bounds ha
  obtain ⟨-, hw', hh'⟩ := hs.sized ha
  rw [hw', hh']
  exact hs.setPlane hd (Plane.build_wf tag hw hh hcap hf) ⟨rfl, rfl, rfl⟩

theorem Known.lpf (hs : Known ps s) (hd : d < 32) (ha : ps.lookup a = some (w, h)) :
    Known ((d, w, h) :: ps) (lpfEffect d a s) :=
  (hs.setBuild _ hd ha (lpfVertical_lt _ (Plane.sample_lt (State.plane_wf hs.wf a)))).nextDraw

theorem Known.quant (hs : Known ps s) (hd : d < 32) (ha : ps.lookup a = some (w, h)) :
    Known ((d, w, h) :: ps) (quantEffect d a s) :=
  (hs.setBuild _ hd ha fun _ _ => fround_lt ..).nextDraw

/-- The level-shifted source is a plane built like any other. -/
theorem dctShifted_eq (ha : (s.plane a).Sized w h) (hwf : (s.plane a).wf s.params) :
    dctShifted s a = Plane.buildIdx w h (s.plane a).tag
      fun k => fsub s.arith ((s.plane a).nth k) (k128 s.params.format) := by
  obtain ⟨-, -, -, hfill⟩ := ha.bounds hwf
  obtain ⟨hvalid, hw, hh⟩ := ha
  simp only [dctShifted, Plane.buildIdx, hvalid, hw, hh, hfill]

theorem Known.dct (hs : Known ps s) (hd : d < 32) (ha' : a < 32) (ha : ps.lookup a = some (w, h)) :
    Known ((d, w, h) :: (a, w, h) :: ps) (dctEffect d a s) := by
  obtain ⟨hw, hh, hcap, -⟩ := hs.bounds ha
  have hshifted : (dctShifted s a).wf s.params ∧ (dctShifted s a).Sized w h := by
    rw [dctShifted_eq (hs.sized ha) (State.plane_wf hs.wf a)]
    exact ⟨Plane.buildIdx_wf _ hw hh hcap fun _ _ => fsub_lt .., rfl, rfl, rfl⟩
  have hplane : (dctPlane s a).wf s.params ∧ (dctPlane s a).Sized w h := by
    obtain ⟨-, rfl, rfl⟩ := hs.sized ha
    exact ⟨Plane.build_wf _ hw hh hcap fun _ _ => fmul_lt .., rfl, rfl, rfl⟩
  exact ((hs.setPlane ha' hshifted.1 hshifted.2).setPlane hd hplane.1 hplane.2).nextDraw

theorem Known.copy (hs : Known ps s) (hd : d < 32) (ha : ps.lookup a = some (w, h)) :
    Known ((d, w, h) :: ps) (copyEffect d a s) := by
  obtain ⟨-, -, -, hfill⟩ := hs.bounds ha
  have hsize := hs.sized ha
  obtain ⟨hvalid, hw, hh⟩ := hsize
  have hsame : { s.plane a with state := .valid, fill := (s.plane a).w * (s.plane a).h } = s.plane a := by
    rw [hw, hh, ← hfill, ← hvalid]
  rw [copyEffect, hsame]
  exact hs.setPlane hd (State.plane_wf hs.wf a) (hs.sized ha)

theorem deltaSample_lt {n : Arith} {target : Plane} (mvb : MvBuffer) (reference : Plane)
    (ht : ∀ x y, (target.sample x y).toNat < 2 ^ n.format.width) (x y : Nat) :
    (deltaSample n mvb reference target x y).toNat < 2 ^ n.format.width := by
  unfold deltaSample
  split
  · exact fsub_lt ..
  · exact ht x y

theorem deltaPlane_wf {b c : Nat} (hs : s.wf) (hb : (s.plane (b + c)).Sized w h) :
    (deltaPlane a b c s).wf s.params ∧ (deltaPlane a b c s).Sized w h := by
  have hplane := State.plane_wf hs (b + c)
  obtain ⟨hw, hh, hcap, -⟩ := hb.bounds hplane
  obtain ⟨-, rfl, rfl⟩ := hb
  exact ⟨Plane.build_wf _ hw hh hcap (deltaSample_lt _ _ (Plane.sample_lt hplane)), rfl, rfl, rfl⟩

theorem Known.delta {b : Nat} (hs : Known ps s) (hd : d + 2 < 32) (hb : ∀ p ∈ s.triple b, p.Sized w h) :
    Known ((d + 2, w, h) :: (d + 1, w, h) :: (d, w, h) :: ps) (deltaEffect d a b s) := by
  simp only [State.triple, List.forall_mem_cons] at hb
  obtain ⟨hb0, hb1, hb2, -⟩ := hb
  obtain ⟨h0, h0'⟩ := deltaPlane_wf (a := a) (c := 0) hs.wf hb0
  obtain ⟨h1, h1'⟩ := deltaPlane_wf (a := a) hs.wf hb1
  obtain ⟨h2, h2'⟩ := deltaPlane_wf (a := a) hs.wf hb2
  exact (hs.setTriple hd h0 h1 h2 h0' h1' h2').nextDraw

theorem Known.subs (hs : Known ps s) (hd : d < 32) (ha : ps.lookup a = some (w, h)) (hw2 : w % 2 = 0) (hh2 : h % 2 = 0) :
    Known ((d, w / 2, h / 2) :: ps) (subsEffect d a s) := by
  obtain ⟨hw, hh, hcap, -⟩ := hs.bounds ha
  obtain ⟨-, hw', hh'⟩ := hs.sized ha
  have hcap' : w / 2 * (h / 2) ≤ s.params.planeCap :=
    (Nat.mul_le_mul (Nat.div_le_self w 2) (Nat.div_le_self h 2)).trans hcap
  rw [subsEffect, subsPlane, hw', hh']
  exact hs.setPlane hd (Plane.build_wf _ (by omega) (by omega) hcap'
    fun _ _ => Plane.sample_lt (State.plane_wf hs.wf a) _ _) ⟨rfl, rfl, rfl⟩

theorem dcDiff_lt {n : Arith} {src : Plane} (hp : ∀ x y, (src.sample x y).toNat < 2 ^ n.format.width) (k : Nat) :
    (dcDiff n src k).toNat < 2 ^ n.format.width := by
  unfold dcDiff
  split
  · exact hp _ _
  · exact fsub_lt ..

theorem Known.dcpred (hs : Known ps s) (hd : d < 32) (ha : ps.lookup a = some (w, h)) (hw8 : w % 8 = 0)
    (hh8 : h % 8 = 0) : Known ((d, w / 8, h / 8) :: ps) (dcpredEffect d a s) := by
  obtain ⟨hw, hh, hcap, -⟩ := hs.bounds ha
  obtain ⟨-, hw', hh'⟩ := hs.sized ha
  have hcap' : w / 8 * (h / 8) ≤ s.params.planeCap :=
    (Nat.mul_le_mul (Nat.div_le_self w 8) (Nat.div_le_self h 8)).trans hcap
  rw [dcpredEffect, dcpredPlane, hw', hh']
  exact (hs.setPlane hd (Plane.buildIdx_wf _ (by omega) (by omega) hcap'
    fun _ _ => dcDiff_lt (Plane.sample_lt (State.plane_wf hs.wf a)) _) ⟨rfl, rfl, rfl⟩).nextDraw

theorem Known.zigzag (hs : Known ps s) (hd : d < 32) (ha : ps.lookup a = some (w, h)) (hw8 : w % 8 = 0)
    (hh8 : h % 8 = 0) : Known ((d, 64, w / 8 * (h / 8)) :: ps) (zigzagEffect d a s) := by
  obtain ⟨hw, hh, hcap, -⟩ := hs.bounds ha
  obtain ⟨-, hw', hh'⟩ := hs.sized ha
  have hcap' : 64 * (w / 8 * (h / 8)) ≤ s.params.planeCap := by
    calc 64 * (w / 8 * (h / 8)) = (w / 8 * 8) * (h / 8 * 8) := by ring
      _ = w * h := by rw [Nat.div_mul_cancel (Nat.dvd_of_mod_eq_zero hw8), Nat.div_mul_cancel (Nat.dvd_of_mod_eq_zero hh8)]
      _ ≤ s.params.planeCap := hcap
  have hrows : 1 ≤ w / 8 * (h / 8) := Nat.mul_pos (by omega) (by omega)
  rw [zigzagEffect, zigzagPlane, hw', hh']
  exact hs.setPlane hd (Plane.build_wf _ (by decide) hrows hcap'
    fun _ _ => Plane.sample_lt (State.plane_wf hs.wf a) _ _) ⟨rfl, rfl, rfl⟩

/-! ## Motion vectors -/

theorem mem_rasterPairs {n : Nat} {ij : Nat × Nat} : ij ∈ rasterPairs n ↔ ij.1 < n ∧ ij.2 < n := by
  obtain ⟨i, j⟩ := ij
  simp [rasterPairs, and_comm]

theorem length_searchedGrid (w h : Nat) : (searchedGrid w h).length = nmb w h := by
  simp [searchedGrid, nmb, List.length_flatMap, Nat.mul_comm]

/-- The scan ends at a candidate. -/
theorem scanBest_mem (f : SampleFormat) (tie : MestTie) (cost : Nat × Nat → Sample) (best : Nat × Nat)
    (l : List (Nat × Nat)) : scanBest f tie cost best l ∈ best :: l := by
  induction l generalizing best with
  | nil => simp [scanBest]
  | cons c rest ih =>
    rw [scanBest]
    split
    · exact List.mem_cons_of_mem _ (ih c)
    · rcases List.mem_cons.mp (ih best) with heq | hrest
      · rw [heq]; exact List.mem_cons_self
      · exact List.mem_cons_of_mem _ (List.mem_cons_of_mem _ hrest)

theorem searchBlock_bounds (s : State) (ref tgt mx my : Nat) :
    -16 ≤ (searchBlock s ref tgt mx my).dx ∧ (searchBlock s ref tgt mx my).dx ≤ 15 ∧
      -16 ≤ (searchBlock s ref tgt mx my).dy ∧ (searchBlock s ref tgt mx my).dy ≤ 15 := by
  have hcandidate : ∀ ij ∈ (0, 0) :: (rasterPairs 32).tail, ij.1 < 32 ∧ ij.2 < 32 := by
    refine List.forall_mem_cons.mpr ⟨by decide, fun ij hij => mem_rasterPairs.mp (List.mem_of_mem_tail hij)⟩
  obtain ⟨hi, hj⟩ := hcandidate _ (scanBest_mem s.params.format s.params.mestTie
    (fun ij => costOf s ref tgt mx my (mx - 16 + ij.1) (my - 16 + ij.2)) (0, 0) (rasterPairs 32).tail)
  simp only [searchBlock]
  omega

theorem mestBuffer_wf (a b : Nat) (s : State) : (mestBuffer a b s).wf := by
  refine ⟨rfl, ?_, fun v hv => ?_⟩
  · simp only [mestBuffer, List.length_map, length_searchedGrid]
  · obtain ⟨m, -, rfl⟩ := List.mem_map.mp hv
    exact searchBlock_bounds s a b m.1 m.2

theorem Known.mest (a b : Nat) (hs : Known ps s) : Known ps (mestEffect a b s) :=
  (⟨State.setMvb_wf hs.wf (mestBuffer_wf a b s), hs.sized⟩ : Known ps (s.setMvb (mestBuffer a b s))).nextDraw

/-! ## Token streams -/

@[simp] theorem length_litToken (f : SampleFormat) (v : Sample) : (litToken f v).length = 2 := rfl
@[simp] theorem length_runToken (n : Nat) : (runToken n).length = 2 := rfl
@[simp] theorem length_eobToken : eobToken.length = 2 := rfl

/-- At most one token a position, and one for the zeros pending (spec/48_token_encoder.md R141). -/
theorem length_encodeAc_le (f : SampleFormat) (run : Nat) (l : List Sample) :
    (encodeAc f run l).length ≤ 2 * l.length + if run = 0 then 0 else 2 := by
  induction l generalizing run with
  | nil => simp only [encodeAc, trailingRun]; split_ifs <;> simp <;> omega
  | cons v rest ih =>
    rw [encodeAc, List.length_cons]
    split
    · have hrest := ih (run + 1)
      rw [if_neg (Nat.succ_ne_zero run)] at hrest
      omega
    · have hrest := ih 0
      rw [if_pos rfl] at hrest
      simp only [List.length_append, length_litToken]
      split_ifs <;> simp <;> omega

theorem length_tokenWords_le (f : SampleFormat) (src : Plane) : (tokenWords f src).length ≤ 128 * src.h := by
  have hrow (n : Nat) : (encodeBlock f src n ++ eobToken).length ≤ 128 := by
    have hac := length_encodeAc_le f 0 ((List.range 63).map fun k => src.sample (k + 1) n)
    simp only [List.length_map, List.length_range, if_true] at hac
    simp only [encodeBlock, List.length_append, length_eobToken]
    omega
  rw [tokenWords, List.length_flatMap]
  have hsum := List.sum_le_card_nsmul ((List.range src.h).map fun n => (encodeBlock f src n ++ eobToken).length) 128
    (by simpa using fun n _ => hrow n)
  simpa [Nat.mul_comm] using hsum

theorem Known.tokens {t : Nat} (hs : Known ps s) (ha : ps.lookup a = some (64, h)) : Known ps (tokensEffect t a s) := by
  obtain ⟨-, -, hcap, -⟩ := hs.bounds ha
  obtain ⟨-, -, hh⟩ := hs.sized ha
  have hlen := length_tokenWords_le s.params.format (s.plane a)
  exact ⟨State.setToken_wf t hs.wf ⟨rfl, by simp only [tokensBuffer]; omega⟩, hs.sized⟩

end Effects

end Sys2Proof.Machine
end

section
/-! THEOREM. Every command and every step keeps the form of the stores (spec/10_state.md R33, R35, R37, R39, R32,
spec/60_exceptions.md R157). -/

namespace Sys2Proof.Machine

open Sys2Proof Claims

/-! ## `FRAME`, step by step (spec/49_frame_control.md R149)

Each step says which planes it needs and which it leaves for the later ones: `w` by `h` is the size of luma, `w'` by `h'`
that of the subsampled chroma. -/

section Frame

variable {s : State} {w h w' h' : Nat}

theorem frameInvalidate_known (hs : s.wf) (h0 : (s.plane 0).Sized w h) : Known [(0, w, h)] (frameInvalidate s) := by
  have hplane : (frameInvalidate s).plane 0 = s.plane 0 := by
    simp [frameInvalidate, State.plane_emptyPlanes]
  have hwf : (frameInvalidate s).wf :=
    State.invalidateMvb_wf <| State.invalidateToken_wf 2 <| State.invalidateToken_wf 1 <|
      State.invalidateToken_wf 0 <| State.emptyPlanes_wf hs (by decide)
  exact (Known.nil hwf).cons (by rw [hplane]; exact h0)

theorem frameSmooth_known (hs : Known [(0, w, h)] s) : Known [(3, w, h), (4, w, h), (5, w, h)] (frameSmooth s) := by
  have hcsc := hs.csc (d := 0) (a := 0) (by decide) rfl
  have hluma := hcsc.copy (d := 3) (a := 0) (by decide) rfl
  have hcb := hluma.lpf (d := 4) (a := 1) (by decide) rfl
  have hcr := hcb.lpf (d := 5) (a := 2) (by decide) rfl
  exact hcr.weaken (by simp [List.lookup_cons])

theorem framePredict_known (ptype : Bool) (hs : Known [(3, w, h), (4, w, h), (5, w, h)] s) :
    Known [(3, w, h), (4, w, h), (5, w, h), (9, w, h), (10, w, h), (11, w, h)] (framePredict ptype s) := by
  cases ptype with
  | true =>
    have hmest := hs.mest 6 3
    have htarget : ∀ p ∈ (mestEffect 6 3 s).triple 3, p.Sized w h := by
      simp only [State.triple, List.forall_mem_cons]
      exact ⟨hmest.sized rfl, hmest.sized rfl, hmest.sized rfl, by simp⟩
    have hdelta := hmest.delta (d := 9) (a := 6) (by decide) htarget
    exact hdelta.weaken (by simp [List.lookup_cons])
  | false =>
    have hy := hs.copy (d := 9) (a := 3) (by decide) rfl
    have hcb := hy.copy (d := 10) (a := 4) (by decide) rfl
    have hcr := hcb.copy (d := 11) (a := 5) (by decide) rfl
    exact hcr.weaken (by simp [List.lookup_cons])

theorem frameSubsample_known (hw : w % 2 = 0) (hh : h % 2 = 0)
    (hs : Known [(3, w, h), (4, w, h), (5, w, h), (9, w, h), (10, w, h), (11, w, h)] s) :
    Known [(3, w, h), (4, w, h), (5, w, h), (9, w, h), (12, w / 2, h / 2), (13, w / 2, h / 2)] (frameSubsample s) := by
  have hcb := hs.subs (d := 12) (a := 10) (by decide) rfl hw hh
  have hcr := hcb.subs (d := 13) (a := 11) (by decide) rfl hw hh
  exact hcr.weaken (by simp [List.lookup_cons])

theorem frameTransform_known
    (hs : Known [(3, w, h), (4, w, h), (5, w, h), (9, w, h), (12, w', h'), (13, w', h')] s) :
    Known [(3, w, h), (4, w, h), (5, w, h), (14, w, h), (15, w', h'), (16, w', h')] (frameTransform s) := by
  have hy := hs.dct (d := 14) (a := 9) (by decide) (by decide) rfl
  have hcb := hy.dct (d := 15) (a := 12) (by decide) (by decide) rfl
  have hcr := hcb.dct (d := 16) (a := 13) (by decide) (by decide) rfl
  exact hcr.weaken (by simp [List.lookup_cons])

theorem frameQuantise_known
    (hs : Known [(3, w, h), (4, w, h), (5, w, h), (14, w, h), (15, w', h'), (16, w', h')] s) :
    Known [(3, w, h), (4, w, h), (5, w, h), (17, w, h), (18, w', h'), (19, w', h')] (frameQuantise s) := by
  have hy := hs.quant (d := 17) (a := 14) (by decide) rfl
  have hcb := hy.quant (d := 18) (a := 15) (by decide) rfl
  have hcr := hcb.quant (d := 19) (a := 16) (by decide) rfl
  exact hcr.weaken (by simp [List.lookup_cons])

theorem framePredictDc_known (hw : w % 8 = 0) (hh : h % 8 = 0) (hw' : w' % 8 = 0) (hh' : h' % 8 = 0)
    (hs : Known [(3, w, h), (4, w, h), (5, w, h), (17, w, h), (18, w', h'), (19, w', h')] s) :
    Known [(3, w, h), (4, w, h), (5, w, h), (17, w, h), (18, w', h'), (19, w', h')] (framePredictDc s) := by
  have hy := hs.dcpred (d := 20) (a := 17) (by decide) rfl hw hh
  have hcb := hy.dcpred (d := 21) (a := 18) (by decide) rfl hw' hh'
  have hcr := hcb.dcpred (d := 22) (a := 19) (by decide) rfl hw' hh'
  exact hcr.weaken (by simp [List.lookup_cons])

theorem frameScan_known (hw : w % 8 = 0) (hh : h % 8 = 0) (hw' : w' % 8 = 0) (hh' : h' % 8 = 0)
    (hs : Known [(3, w, h), (4, w, h), (5, w, h), (17, w, h), (18, w', h'), (19, w', h')] s) :
    Known [(3, w, h), (4, w, h), (5, w, h), (23, 64, w / 8 * (h / 8)), (24, 64, w' / 8 * (h' / 8)),
      (25, 64, w' / 8 * (h' / 8))] (frameScan s) := by
  have hy := hs.zigzag (d := 23) (a := 17) (by decide) rfl hw hh
  have hcb := hy.zigzag (d := 24) (a := 18) (by decide) rfl hw' hh'
  have hcr := hcb.zigzag (d := 25) (a := 19) (by decide) rfl hw' hh'
  exact hcr.weaken (by simp [List.lookup_cons])

theorem frameTokens_known {n n' : Nat}
    (hs : Known [(3, w, h), (4, w, h), (5, w, h), (23, 64, n), (24, 64, n'), (25, 64, n')] s) :
    Known [(3, w, h), (4, w, h), (5, w, h)] (frameTokens s) := by
  have hy := hs.tokens (t := 0) (a := 23) rfl
  have hcb := hy.tokens (t := 1) (a := 24) rfl
  have hcr := hcb.tokens (t := 2) (a := 25) rfl
  exact hcr.weaken (by simp [List.lookup_cons])

theorem frameCarry_wf (hs : Known [(3, w, h), (4, w, h), (5, w, h)] s) : (frameCarry s).wf := by
  have hy := hs.copy (d := 6) (a := 3) (by decide) rfl
  have hcb := hy.copy (d := 7) (a := 4) (by decide) rfl
  have hcr := hcb.copy (d := 8) (a := 5) (by decide) rfl
  exact hcr.wf

theorem frameFinish_wf (ptype : Bool) (hs : s.wf) : (frameFinish ptype s).wf := hs

theorem frameEffect_wf (hs : s.wf) (h0 : (s.plane 0).Sized w h) (hw : w % 16 = 0) (hh : h % 16 = 0) :
    (frameEffect s).wf := by
  have hsmooth := frameSmooth_known (frameInvalidate_known hs h0)
  have hsub := frameSubsample_known (by omega) (by omega) (framePredict_known s.isPFrame hsmooth)
  have hquant := frameQuantise_known (frameTransform_known hsub)
  have hscan := frameScan_known (by omega) (by omega) (by omega) (by omega)
    (framePredictDc_known (by omega) (by omega) (by omega) (by omega) hquant)
  exact frameFinish_wf _ (frameCarry_wf (frameTokens_known hscan))

end Frame

/-! ## Every command -/

theorem pdefEffect_wf {s : State} {d : Nat} (tag : Tag) (hs : s.wf) (hd : d < 32) (hw : s.width ≠ 0) (hh : s.height ≠ 0)
    (hcap : s.width.toNat * s.height.toNat ≤ s.params.planeCap) : (pdefEffect d tag s).wf := by
  have hw' : 1 ≤ s.width.toNat := by bv_omega
  have hh' : 1 ≤ s.height.toNat := by bv_omega
  exact State.setPlane_wf hs hd
    ⟨rfl, hcap, by simp, fun _ => ⟨hw', hh', Nat.mul_pos hw' hh'⟩, by simp, rfl⟩

theorem endseqEffect_wf {s : State} (hs : s.wf) : (endseqEffect s).wf := by
  have hfreed : (s.emptyPlanes 6 3).invalidateMvb.wf := State.invalidateMvb_wf (State.emptyPlanes_wf hs (by decide))
  have hsame : StoresSame (s.emptyPlanes 6 3).invalidateMvb (endseqEffect s) := ⟨rfl, rfl, rfl, rfl, rfl, rfl, rfl⟩
  exact hsame.wf hfreed

/-! ## What checks that pass say of the sources -/

theorem allValid_eq_true {ps : List Plane} : allValid ps = true ↔ ∀ p ∈ ps, p.state = .valid := by simp [allValid]

theorem allSized_eq_true {w h : Nat} {ps : List Plane} : allSized w h ps = true ↔ ∀ p ∈ ps, p.w = w ∧ p.h = h := by
  simp [allSized]

theorem multipleOf_eq_true {n : Nat} {p : Plane} : multipleOf n p = true ↔ p.w % n = 0 ∧ p.h % n = 0 := by
  simp [multipleOf]

/-- Every source is `VALID` when the check of it passes, whichever the other checks. -/
theorem valid_of_pass {checks : List (Bool × FaultCode)} {ps : List Plane} (hc : ∀ c ∈ checks, c.1 = true)
    (hmem : (allValid ps, .unwritten) ∈ checks) : ∀ p ∈ ps, p.state = .valid := allValid_eq_true.mp (hc _ hmem)

theorem blockedChecks_pass {p : Plane} (hc : ∀ c ∈ blockedChecks p, c.1 = true) :
    p.state = .valid ∧ p.w % 8 = 0 ∧ p.h % 8 = 0 := by
  simp only [blockedChecks, List.forall_mem_cons, allValid_eq_true, multipleOf_eq_true] at hc
  obtain ⟨⟨hvalid, -⟩, -, hsize, -⟩ := hc
  exact ⟨hvalid, hsize⟩

theorem subsChecks_pass {a : Nat} {s : State} (hc : ∀ c ∈ subsChecks a s, c.1 = true) :
    (s.plane a).state = .valid ∧ (s.plane a).w % 2 = 0 ∧ (s.plane a).h % 2 = 0 := by
  simp only [subsChecks, List.forall_mem_cons, allValid_eq_true, multipleOf_eq_true] at hc
  obtain ⟨⟨hvalid, -⟩, -, hsize, -⟩ := hc
  exact ⟨hvalid, hsize⟩

theorem tokensChecks_pass {a : Nat} {s : State} (hc : ∀ c ∈ tokensChecks a s, c.1 = true) :
    (s.plane a).Sized 64 (s.plane a).h := by
  simp only [tokensChecks, List.forall_mem_cons, allValid_eq_true, beq_iff_eq] at hc
  obtain ⟨⟨hvalid, -⟩, -, hw, -⟩ := hc
  exact ⟨hvalid, hw, rfl⟩

/-- The target planes of `DELTA` are all of the reference's size. -/
theorem deltaChecks_pass {a b : Nat} {s : State} (hc : ∀ c ∈ deltaChecks a b s, c.1 = true) :
    ∀ p ∈ s.triple b, p.Sized (s.plane a).w (s.plane a).h := by
  simp only [deltaChecks, List.forall_mem_cons, Bool.and_eq_true, allValid_eq_true, allSized_eq_true] at hc
  obtain ⟨⟨hvalid, -⟩, -, ⟨⟨hsize, -⟩, -⟩, -⟩ := hc
  exact fun p hp => ⟨hvalid p (List.mem_append_right _ hp), hsize p (List.mem_append_right _ hp)⟩

theorem pdefChecks_pass {s : State} (hc : ∀ c ∈ pdefChecks s, c.1 = true) :
    s.width ≠ 0 ∧ s.height ≠ 0 ∧ s.width.toNat * s.height.toNat ≤ s.params.planeCap := by
  simp only [pdefChecks, List.forall_mem_cons, Bool.and_eq_true, bne_iff_ne, decide_eq_true_eq] at hc
  obtain ⟨⟨hw, hh⟩, hcap, -⟩ := hc
  exact ⟨hw, hh, hcap⟩

/-- The luma source of `FRAME` is of the configured size, both dimensions multiples of 16. -/
theorem frameChecks_pass {s : State} (hc : ∀ c ∈ frameChecks s, c.1 = true) :
    (s.plane 0).Sized s.width.toNat s.height.toNat ∧ s.width.toNat % 16 = 0 ∧ s.height.toNat % 16 = 0 := by
  have hsource : s.plane 0 ∈ frameSources s := by simp [frameSources, State.triple]
  simp only [frameChecks, frameConfigOk, List.forall_mem_cons, Bool.and_eq_true, allValid_eq_true, allSized_eq_true,
    beq_iff_eq] at hc
  obtain ⟨⟨⟨⟨⟨-, hw⟩, hh⟩, -⟩, -⟩, ⟨hvalid, -⟩, -, hsize, -⟩ := hc
  exact ⟨⟨hvalid _ hsource, hsize _ hsource⟩, hw, hh⟩

/-! ## Every command -/

/-- A destination triple of a command fits the register file (spec/00_scope.md R17). -/
theorem add_two_lt_of_isTripleBase {d : PlaneReg} (h : PlaneReg.isTripleBase d = true) : d.val + 2 < 32 := by
  have := of_decide_eq_true h
  omega

/-- A command whose checks pass keeps the form. -/
theorem effectOf_wf {i : Instr} {s : State} (hs : s.wf) (hlegal : i.wellFormed = true)
    (hc : ∀ c ∈ checksOf i s, c.1 = true) : (effectOf i s).wf := by
  cases i with
  | nop => exact hs
  | csc d a =>
    obtain ⟨hd, -⟩ := Bool.and_eq_true_iff.mp hlegal
    have hvalid := valid_of_pass (ps := s.triple a) hc List.mem_cons_self (s.plane a) List.mem_cons_self
    exact ((Known.of_valid hs hvalid).csc (add_two_lt_of_isTripleBase hd) List.lookup_cons_self).wf
  | lpf d a =>
    have hvalid := valid_of_pass (ps := [s.plane a]) hc List.mem_cons_self (s.plane a) List.mem_cons_self
    exact ((Known.of_valid hs hvalid).lpf d.isLt List.lookup_cons_self).wf
  | mest a b => exact ((Known.nil hs).mest a b).wf
  | delta d a b =>
    obtain ⟨hda, -⟩ := Bool.and_eq_true_iff.mp hlegal
    obtain ⟨hd, -⟩ := Bool.and_eq_true_iff.mp hda
    exact ((Known.nil hs).delta (add_two_lt_of_isTripleBase hd) (deltaChecks_pass hc)).wf
  | subs d a =>
    obtain ⟨hvalid, hw, hh⟩ := subsChecks_pass hc
    exact ((Known.of_valid hs hvalid).subs d.isLt List.lookup_cons_self hw hh).wf
  | dct d a =>
    obtain ⟨hvalid, -⟩ := blockedChecks_pass hc
    exact ((Known.of_valid hs hvalid).dct d.isLt a.isLt List.lookup_cons_self).wf
  | quant d a =>
    obtain ⟨-, hblocked⟩ := List.forall_mem_cons.mp hc
    obtain ⟨hvalid, -⟩ := blockedChecks_pass hblocked
    exact ((Known.of_valid hs hvalid).quant d.isLt List.lookup_cons_self).wf
  | dcpred d a =>
    obtain ⟨hvalid, hw, hh⟩ := blockedChecks_pass hc
    exact ((Known.of_valid hs hvalid).dcpred d.isLt List.lookup_cons_self hw hh).wf
  | zigzag d a =>
    obtain ⟨hvalid, hw, hh⟩ := blockedChecks_pass hc
    exact ((Known.of_valid hs hvalid).zigzag d.isLt List.lookup_cons_self hw hh).wf
  | tokens t a => exact (((Known.nil hs).cons (tokensChecks_pass hc)).tokens List.lookup_cons_self).wf
  | copy d a =>
    have hvalid := valid_of_pass (ps := [s.plane a]) hc List.mem_cons_self (s.plane a) List.mem_cons_self
    exact ((Known.of_valid hs hvalid).copy d.isLt List.lookup_cons_self).wf
  | pdef d tag =>
    obtain ⟨hw, hh, hcap⟩ := pdefChecks_pass hc
    exact pdefEffect_wf tag hs d.isLt hw hh hcap
  | frame =>
    obtain ⟨hluma, hw, hh⟩ := frameChecks_pass hc
    exact frameEffect_wf hs hluma hw hh
  | endseq => exact endseqEffect_wf hs

/-- No check of a command raises the codes that mean no fault or that are reserved (spec/60_exceptions.md R168). -/
theorem checksOf_codes (i : Instr) (s : State) : ∀ c ∈ legalWord i :: checksOf i s, c.2 ≠ .none ∧ c.2 ≠ .backend := by
  cases i <;>
    simp [legalWord, checksOf, cscChecks, lpfChecks, mestChecks, deltaChecks, subsChecks, blockedChecks, quantChecks,
      tokensChecks, copyChecks, pdefChecks, frameChecks]

theorem exec_wf {i : Instr} {s t : State} (hs : s.wf) (h : exec i s = .next t) : t.wf := by
  rcases exec_cases h with ⟨-, rfl⟩ | ⟨-, code, hmem, rfl⟩ | ⟨-, hc, rfl⟩
  · exact hs
  · obtain ⟨hnone, hbackend⟩ := checksOf_codes i s _ hmem
    exact State.raiseFault_wf _ hs hnone hbackend
  · obtain ⟨hlegal, hchecks⟩ := List.forall_mem_cons.mp hc
    exact State.countCommand_wf (effectOf_wf hs hlegal hchecks)

/-! ## Every step -/

theorem State.engineReset_wf {s : State} (h : s.params.wf) : s.engineReset.wf := by
  refine ⟨h, fun i => ?_, ?_, fun t => ?_, ?_⟩
  · rw [State.engineReset_plane]; exact Plane.empty_wf _
  · simp [MvBuffer.wf, MvBuffer.empty, nmb, gridCount]
  · rw [State.engineReset_token]; exact ⟨rfl, Nat.zero_le _⟩
  · simp [State.faultWf]

theorem defaultParams_wf : defaultParams.wf := by
  have hpermutation : defaultZz.Perm (List.range 64) := by decide
  exact ⟨rfl, hpermutation, rfl, rfl, by decide⟩

/-- Settles O51: the stores are empty and the default parameters have the shape the spec asks for. -/
theorem resetHasTheInvariant : Obligations.ResetHasTheInvariant := State.engineReset_wf (s := State.reset) defaultParams_wf

/-- Settles O50, by the ways a step can go. -/
theorem everyStepKeepsTheInvariant : Obligations.EveryStepKeepsTheInvariant := by
  intro s t hs h
  cases step_storesStep h with
  | same hsame => exact hsame.wf hs
  | command u i hu hexec => exact exec_wf (hu.wf hs) hexec
  | fault u code c hu hcode ht =>
    subst ht
    exact State.raiseFault_wf c (hu.wf hs) (by rintro rfl; simp at hcode) (by rintro rfl; simp at hcode)
  | load u v hu hl ht =>
    subst ht
    exact State.setPlane_wf (hu.wf hs) u.psel.isLt
      (Plane.append_wf (State.plane_wf (hu.wf hs) u.psel) hl (ffrom_lt _ v))
  | reset u hu hreset =>
    obtain ⟨hparams, -⟩ := hu.wf hs
    exact hreset.wf (State.engineReset_wf hparams)

end Sys2Proof.Machine
end

section
/-! SUPPORT. What an access does, by the register its offset names (spec/20_memory.md R53 to R61). -/

namespace Sys2Proof.Machine

open Sys2Proof Claims

/-! ## Accesses that reach no register -/

theorem step_of_not_legalAccess {s : State} {rest : List HostEvent} {off size : Nat} {v : Word}
    (hlegal : legalAccess off size = false)
    (hhost : s.host = .read off size :: rest ∨ s.host = .write off size v :: rest) :
    step s = .next (afterAccess s rest .busError) := by
  obtain hhost | hhost := hhost <;>
  · simp only [step, hhost, hostEvent, hlegal, Bool.false_eq_true, if_false]
    rfl

theorem offset_lt_of_regAt {off : Nat} {r : Reg} (h : regAt off = some r) : off < 0x6C := by
  unfold regAt at h
  split at h <;> cases h <;> decide

/-- From `0x6C` on every offset is reserved (spec/10_state.md R23). -/
theorem regAt_eq_none {off : Nat} (h : 0x6C ≤ off) : regAt off = none :=
  Option.eq_none_iff_forall_ne_some.2 fun _ hr => absurd (offset_lt_of_regAt hr) (not_lt.2 h)

theorem step_read_reserved {s : State} {rest : List HostEvent} {off : Nat} (hhost : s.host = .read off 4 :: rest)
    (hlegal : legalAccess off 4 = true) (hreg : regAt off = none) :
    step s = .next (afterAccess s rest (.data 0)) := by
  simp only [step, hhost, hostEvent, hlegal, if_true, readWindow, hreg]
  rfl

theorem step_write_reserved {s : State} {rest : List HostEvent} {off : Nat} {v : Word}
    (hhost : s.host = .write off 4 v :: rest) (hlegal : legalAccess off 4 = true) (hreg : regAt off = none) :
    step s = .next (afterAccess s rest .done) := by
  simp only [step, hhost, hostEvent, hlegal, if_true, writeWindow, hreg]
  rfl

/-! ## Reads of the data ports -/

/-- The read of any register: the state its read leaves, with the word as the reply. -/
theorem step_readReg {s t : State} {rest : List HostEvent} {off : Nat} {r : Reg} {x : Word}
    (hhost : s.host = .read off 4 :: rest) (hreg : regAt off = some r) (hread : readReg r (s.popHost rest) = (x, t)) :
    step s = .next (t.answer (.data x)) := by
  simp only [step, hhost, hostEvent, legalAccess_of_regAt hreg, if_true, readWindow, hreg, hread]

/-- A read that draws its word moves no pointer and advances the draw counter (log entry 3). -/
theorem step_drawRead {s : State} {rest : List HostEvent} {off : Nat} {r : Reg}
    (hhost : s.host = .read off 4 :: rest) (hreg : regAt off = some r)
    (hread : readReg r (s.popHost rest) = drawRead (s.popHost rest)) :
    ∃ x, step s = .next { afterAccess s rest (.data x) with draws := s.draws + 1 } :=
  ⟨Config.drawnWord s.draws, step_readReg hhost hreg hread⟩

/-- The registers whose read has a side effect (spec/20_memory.md R55). -/
def dataPorts : List Reg := [.pdata, .mvdata, .tkdata]

theorem offset_of_mem_dataPorts {off : Nat} {r : Reg} (h : regAt off = some r) (hr : r ∈ dataPorts) :
    off ∈ [0x48, 0x58, 0x68] := by
  unfold regAt at h
  split at h <;> cases h <;> simp [dataPorts] at hr ⊢

theorem readReg_state {r : Reg} (hr : r ∉ dataPorts) (s : State) : (readReg r s).2 = s := by
  cases r
  case pdata | mvdata | tkdata => simp [dataPorts] at hr
  all_goals rfl

/-! ## Writes of `PDATA` -/

theorem step_write_pdata {s : State} {rest : List HostEvent} {v : Word} (hhost : s.host = .write 0x48 4 v :: rest) :
    step s = .next (writePdata v (afterAccess s rest .done)) := step_write hhost rfl

theorem writePdata_of_fault {s : State} (v : Word) (h : s.fault = true) : writePdata v s = s := if_pos h

theorem writePdata_of_not_loading {s : State} (v : Word) (h : s.fault = false) (hl : s.selPlane.state ≠ .loading) :
    writePdata v s = s.raiseFault .load 0 := by
  simp [writePdata, h, hl]

theorem writePdata_of_loading {s : State} (v : Word) (h : s.fault = false) (hl : s.selPlane.state = .loading) :
    writePdata v s = s.setPlane s.psel (s.selPlane.append (ffrom s.params.format v)) := by
  simp [writePdata, h, hl]

/-- A `PDATA` write on a running engine whose selected plane is `LOADING`. -/
theorem step_write_pdata_of_loading {s : State} {rest : List HostEvent} {v : Word} (h : s.fault = false)
    (hl : s.selPlane.state = .loading) (hhost : s.host = .write 0x48 4 v :: rest) :
    step s = .next (afterAccess (s.setPlane s.psel (s.selPlane.append (ffrom s.params.format v))) rest .done) := by
  rw [step_write_pdata hhost]
  exact congrArg _ (writePdata_of_loading (s := afterAccess s rest .done) v h hl)

theorem otherPlanesSame_setPlane (s : State) (i : Nat) (p : Plane) : otherPlanesSame [i] s (s.setPlane i p) :=
  fun _ _ hk => State.plane_setPlane_ne s p fun hik => hk (List.mem_singleton.2 hik.symm)

theorem State.setPlane_setPlane (s : State) (i : Nat) (p q : Plane) :
    (s.setPlane i p).setPlane i q = s.setPlane i q := by
  simp [State.setPlane]

@[simp] theorem plane_afterAccess (s : State) (rest : List HostEvent) (r : BusReply) (k : Nat) :
    (afterAccess s rest r).plane k = s.plane k := rfl

@[simp] theorem selPlane_afterAccess (s : State) (rest : List HostEvent) (r : BusReply) :
    (afterAccess s rest r).selPlane = s.selPlane := rfl

@[simp] theorem selPlane_setPlane_psel (s : State) (p : Plane) : (s.setPlane s.psel p).selPlane = p :=
  State.plane_setPlane_self s p s.psel.isLt

/-- Of two accesses that load the same plane register, the second one's plane and reply are left. -/
theorem afterAccess_setPlane_twice (s : State) (i : Nat) (p q : Plane) (rest rest' : List HostEvent) (r r' : BusReply) :
    afterAccess ((afterAccess (s.setPlane i p) rest r).setPlane i q) rest' r' = afterAccess (s.setPlane i q) rest' r' := by
  rw [← State.setPlane_setPlane s i p q]; rfl

/-! ## The load of a whole plane -/

/-- A plane after its last words have been loaded. -/
def Plane.filled (f : SampleFormat) (p : Plane) (vs : List Word) : Plane :=
  { p with state := .valid, fill := p.fill + vs.length, data := p.data ++ vs.map (ffrom f) }

theorem Plane.append_eq_filled {f : SampleFormat} {p : Plane} {v : Word} (h : p.fill + 1 = p.w * p.h) :
    p.append (ffrom f v) = p.filled f [v] := by
  simp [Plane.append, Plane.filled, h]

theorem Plane.filled_append (f : SampleFormat) (p : Plane) (v : Word) (vs : List Word) :
    (p.append (ffrom f v)).filled f vs = p.filled f (v :: vs) := by
  simp [Plane.append, Plane.filled]; omega

theorem Plane.append_state_of_ne {p : Plane} {x : Sample} (h : p.fill + 1 ≠ p.w * p.h) :
    (p.append x).state = p.state := if_neg h

theorem run_succ {n : Nat} {s t : State} (h : step s = .next t) :
    Host.Core.run Sys2Proof.core (n + 1) s = Host.Core.run Sys2Proof.core n t := by
  have hcore : Sys2Proof.core.step s = .next t := h
  simp only [Host.Core.run, hcore]

/-- As many `PDATA` writes as the selected plane still wants fill it, one after the other. -/
theorem run_load {s : State} {v : Word} {vs : List Word} (hfault : s.fault = false)
    (hl : s.selPlane.state = .loading) (hfull : s.selPlane.fill + (v :: vs).length = s.selPlane.w * s.selPlane.h)
    (hhost : s.host = (v :: vs).map (.write 0x48 4)) :
    Host.Core.run Sys2Proof.core (v :: vs).length s =
      .next (afterAccess (s.setPlane s.psel (s.selPlane.filled s.params.format (v :: vs))) [] .done) := by
  induction vs generalizing s v with
  | nil =>
    rw [← Plane.append_eq_filled hfull]
    exact run_succ (step_write_pdata_of_loading hfault hl hhost)
  | cons u us ih =>
    have hstep := step_write_pdata_of_loading hfault hl hhost
    simp only [List.length_cons] at hfull
    have hwant : s.selPlane.fill + 1 ≠ s.selPlane.w * s.selPlane.h := by omega
    refine (run_succ hstep).trans ((ih ?running ?stillLoading ?rest rfl).trans (congrArg _ ?sameState))
    case running => exact hfault
    case stillLoading => simp [Plane.append_state_of_ne hwant, hl]
    case rest => simp only [selPlane_afterAccess, selPlane_setPlane_psel, Plane.append, List.length_cons]; omega
    case sameState =>
      rw [selPlane_afterAccess, selPlane_setPlane_psel, ← Plane.filled_append _ _ v]
      exact afterAccess_setPlane_twice ..

end Sys2Proof.Machine
end

section
/-! SUPPORT. Words that cross into the sample format and back (spec/00_scope.md R9), and vectors as words
(spec/30_encoding.md R77). -/

namespace Sys2Proof.Machine

open Sys2Proof Claims

/-! ## A binary32 value is a binary64 value -/

/-- A value of the format rounds to itself, whatever it is counted in. -/
theorem roundMag_magUnits_mul {f : SampleFormat} {m den : Nat} (hden : 0 < den) (h : m ≤ f.infMag) :
    roundMag f (magUnits f m * den) den = m := by
  have hnear := (roundMagUnbounded_nearest f (magUnits f m * den) hden m).1
  simp only [magDist, Nat.mul_comm _ den] at hnear
  have hval : den * magUnits f (roundMagUnbounded f (den * magUnits f m) den) = den * magUnits f m := by omega
  have hmag := (magUnits_strictMono f).injective (Nat.eq_of_mul_eq_mul_left hden hval)
  rw [roundMag_eq_min, Nat.mul_comm, hmag, min_eq_left h]

/-- Every finite binary32 value is a finite binary64 value: the significand fits, and the exponent grows by 925. -/
theorem exists_magUnits_binary64 {m : Nat} (h : m < SampleFormat.binary32.infMag) :
    ∃ m' < SampleFormat.binary64.infMag, magUnits .binary64 m' = magUnits .binary32 m * unitRatio := by
  obtain ⟨k, s, rfl, hs, hscale⟩ := exists_scale .binary32 m
  simp only [SampleFormat.fracBits, SampleFormat.infMag] at h hs
  have htop : (k + 925) * 2 ^ 52 + 2 * 2 ^ 52 ≤ SampleFormat.binary64.infMag := by
    simp only [SampleFormat.infMag]; omega
  obtain ⟨m', hm', hval⟩ := exists_magUnits_eq .binary64 (k + 925) (s := s)
    (by simp only [SampleFormat.fracBits]; omega)
  refine ⟨m', hm'.trans_le htop, ?_⟩
  rw [hval, magUnits_scale hscale, pow_add 2 k 925, ← Nat.mul_assoc, unitRatio]

theorem unitRatio_pos : 0 < unitRatio := by unfold unitRatio; positivity

theorem fracRatio_pos : 0 < fracRatio := by unfold fracRatio; positivity

/-! ## The magnitudes of `widen` and `nearest32` -/

/-- The magnitude pattern that `widen` makes of a binary32 one. -/
def widenMag (m : Nat) : Nat :=
  if m < SampleFormat.binary32.infMag then roundMag .binary64 (magUnits .binary32 m * unitRatio) 1
  else SampleFormat.binary64.infMag + (m - SampleFormat.binary32.infMag) * fracRatio

/-- The magnitude pattern that `nearest32` makes of a binary64 one. -/
def nearestMag (m : Nat) : Nat :=
  if m < SampleFormat.binary64.infMag then roundMag .binary32 (magUnits .binary64 m) unitRatio
  else SampleFormat.binary32.infMag + (m - SampleFormat.binary64.infMag) / fracRatio

theorem widen_eq_packFloat (w : Word) :
    widen w = packFloat .binary64 (fsign .binary32 (w.setWidth 64)) (widenMag (fmag .binary32 (w.setWidth 64))) := by
  simp only [widen, widenMag, isFinite, units_eq_magUnits, decide_eq_true_eq]

theorem nearest32_eq_packFloat (a : Sample) :
    nearest32 a = (packFloat .binary32 (fsign .binary64 a) (nearestMag (fmag .binary64 a))).setWidth 32 := by
  simp only [nearest32, nearestMag, isFinite, units_eq_magUnits, decide_eq_true_eq]

theorem widenMag_lt {m : Nat} (h : m < SampleFormat.binary32.signPlace) :
    widenMag m < SampleFormat.binary64.signPlace := by
  unfold widenMag
  split_ifs
  · exact roundMag_lt ..
  · simp only [SampleFormat.signPlace, SampleFormat.infMag, fracRatio] at *; omega

/-- Finite values keep their value; the others keep what lies above the infinite magnitude, shifted up and down again. -/
theorem nearestMag_widenMag (m : Nat) : nearestMag (widenMag m) = m := by
  by_cases hfin : m < SampleFormat.binary32.infMag
  · obtain ⟨m', hm', hval⟩ := exists_magUnits_binary64 hfin
    have hwide : widenMag m = m' := by rw [widenMag, if_pos hfin, ← hval, roundMag_magUnits hm'.le]
    rw [hwide, nearestMag, if_pos hm', hval]
    exact roundMag_magUnits_mul unitRatio_pos hfin.le
  · rw [widenMag, if_neg hfin, nearestMag, if_neg (Nat.not_lt.2 (Nat.le_add_right ..)), Nat.add_sub_cancel_left,
      Nat.mul_div_cancel _ fracRatio_pos]
    omega

/-! ## Round trips -/

theorem fmag_setWidth_lt (w : Word) : fmag .binary32 (w.setWidth 64) < SampleFormat.binary32.signPlace := by
  have hw := w.isLt
  simp only [fmag, BitVec.toNat_setWidth, SampleFormat.signPlace]
  split <;> omega

theorem setWidth_setWidth_word (w : Word) : (w.setWidth 64).setWidth 32 = w := by
  rw [BitVec.setWidth_setWidth_of_le w (by decide), BitVec.setWidth_eq]

theorem nearest32_widen (w : Word) : nearest32 (widen w) = w := by
  have hlt := widenMag_lt (fmag_setWidth_lt w)
  rw [nearest32_eq_packFloat, widen_eq_packFloat, fsign_packFloat hlt, fmag_packFloat hlt, nearestMag_widenMag,
    packFloat_fsign_fmag, setWidth_setWidth_word]

/-- The word of the value of a word is that word, in either format. -/
theorem fbits_ffrom (f : SampleFormat) (w : Word) : fbits f (ffrom f w) = w := by
  cases f with
  | binary32 => exact setWidth_setWidth_word w
  | binary64 => rw [fbits, ffrom, nearest32_widen, if_pos rfl]

/-! ## Vectors -/

theorem toInt_ofInt_of_bounds {x : Int} (h : -16 ≤ x ∧ x ≤ 15) : (BitVec.ofInt 16 x).toInt = x := by
  rw [BitVec.toInt_ofInt]
  exact Int.bmod_eq_of_le (by omega) (by omega)

theorem MotionVec.toWord_low (v : MotionVec) : v.toWord.extractLsb' 0 16 = BitVec.ofInt 16 v.dx :=
  BitVec.extractLsb'_append_eq_right

theorem MotionVec.toWord_high (v : MotionVec) : v.toWord.extractLsb' 16 16 = BitVec.ofInt 16 v.dy :=
  BitVec.extractLsb'_append_eq_left

end Sys2Proof.Machine
end

section
/-! THEOREM. The statements about the window's accesses and the load and read-out protocols (spec/20_memory.md). -/

namespace Sys2Proof.Machine

open Sys2Proof Claims

/-! ## Accesses without effect -/

/-- Settles O14: a bus error, a reserved offset, or a register that is no data port. -/
theorem otherReadsHaveNoSideEffect : Obligations.OtherReadsHaveNoSideEffect := by
  intro s rest off size hhost hoff
  cases hlegal : legalAccess off size with
  | false => exact ⟨.busError, step_of_not_legalAccess (v := 0) hlegal (.inl hhost)⟩
  | true =>
    obtain rfl : size = 4 := by
      simp only [legalAccess, Bool.and_eq_true, beq_iff_eq] at hlegal
      exact hlegal.1.1
    cases hreg : regAt off with
    | none => exact ⟨.data 0, step_read_reserved hhost hlegal hreg⟩
    | some r =>
      have hstate := readReg_state (mt (offset_of_mem_dataPorts hreg) hoff) (s.popHost rest)
      exact ⟨_, step_read hhost hreg (Prod.ext rfl hstate)⟩

/-- Settles O9: such an access is not legal. -/
theorem malformedAccessGetsABusError : Obligations.MalformedAccessGetsABusError := by
  intro s rest off size v hbad hhost
  have hlegal : legalAccess off size = false := by
    simp only [legalAccess, Bool.and_eq_false_iff, beq_eq_false_iff_ne, decide_eq_false_iff_not]
    omega
  exact step_of_not_legalAccess hlegal hhost

/-- Settles O10: an offset from `0x6C` on names no register; the others name one whose access does nothing. -/
theorem unmappedAndWrongDirectionAccesses : Obligations.UnmappedAndWrongDirectionAccesses := by
  intro s rest off v haligned hinside
  have hlegal : legalAccess off 4 = true := by simp [legalAccess, haligned, hinside]
  constructor
  · rintro (hreserved | hoff) hhost
    · exact step_read_reserved hhost hlegal (regAt_eq_none hreserved)
    · fin_cases hoff <;> exact step_read hhost rfl rfl
  · rintro (hreserved | hoff) hhost
    · exact step_write_reserved hhost hlegal (regAt_eq_none hreserved)
    · fin_cases hoff <;> exact step_write hhost rfl

/-! ## Commands -/

/-- Settles O7: on a halted engine the write does nothing, and neither does the command. -/
theorem stepRunsTheDecodedCommand : Obligations.StepRunsTheDecodedCommand := by
  intro s rest c i hhost hdecode
  have hstep : step s = writeCmd c (afterAccess s rest .done) := step_write hhost rfl
  rw [hstep, writeCmd, hdecode]
  split
  · next hfault => rw [exec_eq_runCommand, runCommand_halted hfault]
  · rfl

/-! ## Loading a plane -/

/-- Settles O15, by the three cases of a `PDATA` write. -/
theorem pdataWriteLoadsOneSample : Obligations.PdataWriteLoadsOneSample := by
  intro s rest v hhost
  have hstep := step_write_pdata hhost
  refine ⟨fun hfault => ?halted, fun hrun hnot => ?notLoading, fun hrun hl => ?loading⟩
  case halted => exact hstep.trans (congrArg _ (writePdata_of_fault v hfault))
  case notLoading => exact hstep.trans (congrArg _ (writePdata_of_not_loading v hrun hnot))
  case loading =>
    refine ⟨_, step_write_pdata_of_loading hrun hl hhost, rfl, rfl,
      otherPlanesSame_setPlane s _ _, rfl, ?_⟩
    rw [plane_afterAccess, State.plane_setPlane_self _ _ s.psel.isLt]
    refine ⟨rfl, rfl, rfl, rfl, rfl, ?_⟩
    exact congrArg (ite _ _) hl

/-- Settles O16: the run of the load, and the round trip of its words. -/
theorem planeLoadProtocolCompletes : Obligations.PlaneLoadProtocolCompletes := by
  rintro s (_ | ⟨v, vs⟩) hrun hl hfill hdata hpos hsize hhost
  · exact absurd hpos (by simp)
  have hfull : s.selPlane.fill + (v :: vs).length = s.selPlane.w * s.selPlane.h := by
    rw [State.selPlane, hfill, Nat.zero_add, hsize]
  have hfilled : s.selPlane.filled s.params.format (v :: vs) =
      { s.plane s.psel.val with
        state := .valid, fill := (v :: vs).length, data := (v :: vs).map (ffrom s.params.format) } := by
    simp [Plane.filled, State.selPlane, hfill, hdata]
  refine ⟨_, run_load hrun hl hfull hhost, rfl, otherPlanesSame_setPlane s _ _, ?_⟩
  rw [plane_afterAccess, State.plane_setPlane_self _ _ s.psel.isLt, hfilled]
  refine ⟨rfl, fun k u hu => ?_⟩
  rw [Plane.nth, List.getD_eq_getElem?_getD, List.getElem?_map, hu]
  exact fbits_ffrom _ u

/-! ## Reading out -/

/-- Settles O17, by the condition of a `PDATA` read. -/
theorem pdataReadReturnsSampleAndAdvances : Obligations.PdataReadReturnsSampleAndAdvances := by
  intro s rest hhost
  exact ⟨fun hin => step_readReg hhost rfl (if_pos hin), fun hout => step_drawRead hhost rfl (if_neg hout)⟩

/-- Settles O18: the vector is in range of two's complement in 16 bits, as the invariant says. -/
theorem mvdataReadReturnsVectorAndAdvances : Obligations.MvdataReadReturnsVectorAndAdvances := by
  intro s rest hhost hwf
  obtain ⟨-, hlen, hbounds⟩ := hwf
  refine ⟨fun v hvalid hv => ?_, fun hout => step_drawRead hhost rfl (if_neg hout)⟩
  obtain ⟨hlt, -⟩ := List.getElem?_eq_some_iff.1 hv
  obtain ⟨hdx, hdx', hdy, hdy'⟩ := hbounds v (List.mem_of_getElem? hv)
  have hnth : s.mvb.nth s.mvaddr.toNat = v := by rw [MvBuffer.nth, List.getD_eq_getElem?_getD, hv]; rfl
  refine ⟨v.toWord, ?_, ?_, ?_⟩
  · rw [← hnth]
    exact step_readReg hhost rfl (if_pos ⟨hvalid, hlen ▸ hlt⟩)
  · rw [MotionVec.toWord_low, toInt_ofInt_of_bounds ⟨hdx, hdx'⟩]
  · rw [MotionVec.toWord_high, toInt_ofInt_of_bounds ⟨hdy, hdy'⟩]

/-- Settles O19, by the condition of a `TKDATA` read. -/
theorem tkdataReadReturnsWordAndAdvances : Obligations.TkdataReadReturnsWordAndAdvances := by
  intro s rest hhost b hlen
  refine ⟨fun x hvalid hx => ?_, fun hout => step_drawRead hhost rfl (if_neg hout)⟩
  obtain ⟨hlt, -⟩ := List.getElem?_eq_some_iff.1 hx
  have hword : b.word.getD s.tkaddr.toNat 0 = x := by rw [List.getD_eq_getElem?_getD, hx]; rfl
  rw [← hword]
  exact step_readReg hhost rfl (if_pos ⟨hvalid, hlen ▸ hlt⟩)

end Sys2Proof.Machine
end

section
/-! SUPPORT. The decoder as high bits and a row of the opcode map over the fields of a word, and which fields each format
accepts (spec/30_encoding.md R70 to R73). -/

namespace Sys2Proof.Machine

open Sys2Proof Claims

/-! ## A word and its fields -/

/-- The row of the opcode map that `op` selects, over the other fields (spec/30_encoding.md R72). -/
def decodeRow (op d a b : Nat) : Except IllegalWord Instr :=
  match op with
  | 0x00 => decodeZ d a b .nop
  | 0x01 => decodeDA3 d a b .csc
  | 0x02 => decodeDA d a b .lpf
  | 0x03 => decodeAB3 d a b .mest
  | 0x04 => decodeDAB3 d a b .delta
  | 0x05 => decodeDA d a b .subs
  | 0x06 => decodeDA d a b .dct
  | 0x07 => decodeDA d a b .quant
  | 0x08 => decodeDA d a b .dcpred
  | 0x09 => decodeDA d a b .zigzag
  | 0x0A => decodeTA d a b .tokens
  | 0x0B => decodeDA d a b .copy
  | 0x0C => decodeDT d a b .pdef
  | 0x0D => decodeZ d a b .frame
  | 0x0E => decodeZ d a b .endseq
  | _ => .error .opcode

theorem decode_eq_decodeRow {c : Word} (h : slice c 23 9 = 0) :
    decode c = decodeRow (slice c 0 8) (slice c 8 5) (slice c 13 5) (slice c 18 5) :=
  if_neg (not_not.2 h)

theorem decode_of_highBits {c : Word} (h : slice c 23 9 ≠ 0) : decode c = .error .highBits :=
  if_pos h

theorem decode_packFields (op : Fin 256) (d a b : Fin 32) : decode (packFields op d a b) = decodeRow op d a b := by
  obtain ⟨hop, hd, ha, hb, hhigh⟩ := slice_packFields op.isLt d.isLt a.isLt b.isLt
  rw [decode_eq_decodeRow hhigh, hop, hd, ha, hb]

/-- A word whose high bits are zero is the sum of its four fields (spec/30_encoding.md R70). -/
theorem exists_eq_packFields {c : Word} (h : slice c 23 9 = 0) :
    ∃ (op : Fin 256) (d a b : Fin 32), c = packFields op d a b := by
  refine ⟨⟨slice c 0 8, Nat.mod_lt _ (by decide)⟩, ⟨slice c 8 5, Nat.mod_lt _ (by decide)⟩,
    ⟨slice c 13 5, Nat.mod_lt _ (by decide)⟩, ⟨slice c 18 5, Nat.mod_lt _ (by decide)⟩, BitVec.eq_of_toNat_eq ?_⟩
  have hc := c.isLt
  simp only [slice, packFields, BitVec.toNat_ofNat] at h ⊢
  omega

/-! ## Which fields a format accepts, and as which command -/

theorem planeOf_val (d : PlaneReg) : planeOf d = d := Fin.ofNat_val_eq_self d

theorem Tag.ofCode_code (tag : Tag) : Tag.ofCode tag.code = tag := by cases tag <;> rfl

theorem Tag.code_ofCode {n : Nat} (h : n < 4) : (Tag.ofCode n).code = n := by interval_cases n <;> rfl

theorem Tag.code_lt (tag : Tag) : tag.code < 4 := by cases tag <;> decide

/-- What a guarded row accepts: its guard is met, and what stands behind it accepts. -/
theorem guard_eq_ok {p : Prop} [Decidable p] {x : Except IllegalWord Instr} {e : IllegalWord} {i : Instr} :
    (if p then x else .error e) = .ok i ↔ p ∧ x = .ok i := by
  by_cases hp : p <;> simp [hp]

section Formats

variable {d a b : PlaneReg} {i : Instr}

theorem decodeZ_eq_ok {j : Instr} : decodeZ d a b j = .ok i ↔ d = 0 ∧ a = 0 ∧ b = 0 ∧ j = i := by
  simp [decodeZ, guard_eq_ok, and_assoc]

theorem decodeDA_eq_ok {f : PlaneReg → PlaneReg → Instr} : decodeDA d a b f = .ok i ↔ b = 0 ∧ f d a = i := by
  simp [decodeDA, guard_eq_ok, planeOf_val]

theorem decodeDA3_eq_ok {f : PlaneReg → PlaneReg → Instr} :
    decodeDA3 d a b f = .ok i ↔ b = 0 ∧ d.isTripleBase ∧ a.isTripleBase ∧ f d a = i := by
  simp [decodeDA3, guard_eq_ok, PlaneReg.isTripleBase, planeOf_val, and_assoc]

theorem decodeAB3_eq_ok {f : PlaneReg → PlaneReg → Instr} :
    decodeAB3 d a b f = .ok i ↔ d = 0 ∧ a.isTripleBase ∧ b.isTripleBase ∧ f a b = i := by
  simp [decodeAB3, guard_eq_ok, PlaneReg.isTripleBase, planeOf_val, and_assoc]

theorem decodeDAB3_eq_ok {f : PlaneReg → PlaneReg → PlaneReg → Instr} :
    decodeDAB3 d a b f = .ok i ↔ d.isTripleBase ∧ a.isTripleBase ∧ b.isTripleBase ∧ f d a b = i := by
  simp [decodeDAB3, guard_eq_ok, PlaneReg.isTripleBase, planeOf_val, and_assoc]

theorem decodeTA_eq_ok {f : TokenReg → PlaneReg → Instr} :
    decodeTA d a b f = .ok i ↔ b = 0 ∧ ∃ t : TokenReg, (t : Nat) = d ∧ f t a = i := by
  simp only [decodeTA, ne_eq, ite_not, Fin.val_eq_zero_iff, guard_eq_ok, planeOf_val, Except.ok.injEq,
    and_congr_right_iff]
  refine fun _ => ⟨fun ⟨hd, hi⟩ => ⟨Fin.ofNat 4 d, Nat.mod_eq_of_lt hd, hi⟩, ?_⟩
  rintro ⟨t, ht, hi⟩
  rw [← ht, Fin.ofNat_val_eq_self]
  exact ⟨t.isLt, hi⟩

theorem decodeDT_eq_ok {f : PlaneReg → Tag → Instr} :
    decodeDT d a b f = .ok i ↔ b = 0 ∧ ∃ tag : Tag, tag.code = a ∧ f d tag = i := by
  simp only [decodeDT, ne_eq, ite_not, Fin.val_eq_zero_iff, guard_eq_ok, planeOf_val, Except.ok.injEq,
    and_congr_right_iff]
  refine fun _ => ⟨fun ⟨ha, hi⟩ => ⟨Tag.ofCode a, Tag.code_ofCode ha, hi⟩, ?_⟩
  rintro ⟨tag, htag, hi⟩
  rw [← htag, Tag.ofCode_code]
  exact ⟨Tag.code_lt tag, hi⟩

end Formats

theorem decodeRow_of_le {op d a b : Nat} (h : 0x0F ≤ op) : decodeRow op d a b = .error .opcode := by
  obtain ⟨n, rfl⟩ := Nat.exists_eq_add_of_le' h
  rfl

end Sys2Proof.Machine
end

section
/-! THEOREM. Decoding and encoding are inverse, and exactly the words of spec/30_encoding.md R73 are illegal. -/

namespace Sys2Proof.Machine

open Sys2Proof Claims

/-! ## Encoding, then decoding -/

/-- Settles O3: the word of a command has the fields its row accepts. -/
theorem decodeOfEncodeIsTheCommand : Obligations.DecodeOfEncodeIsTheCommand := by
  intro i hwf
  cases i with
  | nop => exact (decode_packFields 0x00 0 0 0).trans (decodeZ_eq_ok.2 ⟨rfl, rfl, rfl, rfl⟩)
  | csc d a =>
    obtain ⟨hd, ha⟩ := (Bool.and_eq_true _ _).mp hwf
    exact (decode_packFields 0x01 d a 0).trans (decodeDA3_eq_ok.2 ⟨rfl, hd, ha, rfl⟩)
  | lpf d a => exact (decode_packFields 0x02 d a 0).trans (decodeDA_eq_ok.2 ⟨rfl, rfl⟩)
  | mest a b =>
    obtain ⟨ha, hb⟩ := (Bool.and_eq_true _ _).mp hwf
    exact (decode_packFields 0x03 0 a b).trans (decodeAB3_eq_ok.2 ⟨rfl, ha, hb, rfl⟩)
  | delta d a b =>
    obtain ⟨hda, hb⟩ := (Bool.and_eq_true _ _).mp hwf
    obtain ⟨hd, ha⟩ := (Bool.and_eq_true _ _).mp hda
    exact (decode_packFields 0x04 d a b).trans (decodeDAB3_eq_ok.2 ⟨hd, ha, hb, rfl⟩)
  | subs d a => exact (decode_packFields 0x05 d a 0).trans (decodeDA_eq_ok.2 ⟨rfl, rfl⟩)
  | dct d a => exact (decode_packFields 0x06 d a 0).trans (decodeDA_eq_ok.2 ⟨rfl, rfl⟩)
  | quant d a => exact (decode_packFields 0x07 d a 0).trans (decodeDA_eq_ok.2 ⟨rfl, rfl⟩)
  | dcpred d a => exact (decode_packFields 0x08 d a 0).trans (decodeDA_eq_ok.2 ⟨rfl, rfl⟩)
  | zigzag d a => exact (decode_packFields 0x09 d a 0).trans (decodeDA_eq_ok.2 ⟨rfl, rfl⟩)
  | tokens t a =>
    exact (decode_packFields 0x0A (t.castLE (by decide)) a 0).trans (decodeTA_eq_ok.2 ⟨rfl, t, rfl, rfl⟩)
  | copy d a => exact (decode_packFields 0x0B d a 0).trans (decodeDA_eq_ok.2 ⟨rfl, rfl⟩)
  | pdef d tag =>
    have htag : tag.code < 32 := (Tag.code_lt tag).trans (by decide)
    exact (decode_packFields 0x0C d ⟨tag.code, htag⟩ 0).trans (decodeDT_eq_ok.2 ⟨rfl, tag, rfl, rfl⟩)
  | frame => exact (decode_packFields 0x0D 0 0 0).trans (decodeZ_eq_ok.2 ⟨rfl, rfl, rfl, rfl⟩)
  | endseq => exact (decode_packFields 0x0E 0 0 0).trans (decodeZ_eq_ok.2 ⟨rfl, rfl, rfl, rfl⟩)

/-! ## Decoding, then encoding -/

/-- The command is well-formed, and its word has these fields. -/
def hasFields (i : Instr) (op : Nat) (d a b : PlaneReg) : Prop :=
  i.wellFormed = true ∧ encode i = packFields op d a b

theorem decodeZ_hasFields {op : Nat} {d a b : PlaneReg} {i j : Instr} (h : decodeZ d a b j = .ok i)
    (hj : hasFields j op 0 0 0) : hasFields i op d a b := by
  obtain ⟨rfl, rfl, rfl, rfl⟩ := decodeZ_eq_ok.1 h
  exact hj

theorem decodeDA_hasFields {op : Nat} {d a b : PlaneReg} {i : Instr} {f : PlaneReg → PlaneReg → Instr}
    (h : decodeDA d a b f = .ok i) (hf : hasFields (f d a) op d a 0) : hasFields i op d a b := by
  obtain ⟨rfl, rfl⟩ := decodeDA_eq_ok.1 h
  exact hf

theorem decodeRow_hasFields {d a b : PlaneReg} {i : Instr} :
    ∀ {op : Nat}, decodeRow op d a b = .ok i → hasFields i op d a b
  | 0x00, h => decodeZ_hasFields h ⟨rfl, rfl⟩
  | 0x01, h => by
    obtain ⟨rfl, hd, ha, rfl⟩ := decodeDA3_eq_ok.1 h
    exact ⟨(Bool.and_eq_true _ _).mpr ⟨hd, ha⟩, rfl⟩
  | 0x02, h => decodeDA_hasFields h ⟨rfl, rfl⟩
  | 0x03, h => by
    obtain ⟨rfl, ha, hb, rfl⟩ := decodeAB3_eq_ok.1 h
    exact ⟨(Bool.and_eq_true _ _).mpr ⟨ha, hb⟩, rfl⟩
  | 0x04, h => by
    obtain ⟨hd, ha, hb, rfl⟩ := decodeDAB3_eq_ok.1 h
    exact ⟨(Bool.and_eq_true _ _).mpr ⟨(Bool.and_eq_true _ _).mpr ⟨hd, ha⟩, hb⟩, rfl⟩
  | 0x05, h => decodeDA_hasFields h ⟨rfl, rfl⟩
  | 0x06, h => decodeDA_hasFields h ⟨rfl, rfl⟩
  | 0x07, h => decodeDA_hasFields h ⟨rfl, rfl⟩
  | 0x08, h => decodeDA_hasFields h ⟨rfl, rfl⟩
  | 0x09, h => decodeDA_hasFields h ⟨rfl, rfl⟩
  | 0x0A, h => by
    obtain ⟨rfl, t, ht, rfl⟩ := decodeTA_eq_ok.1 h
    exact ⟨rfl, by rw [encode, ht]; rfl⟩
  | 0x0B, h => decodeDA_hasFields h ⟨rfl, rfl⟩
  | 0x0C, h => by
    obtain ⟨rfl, tag, htag, rfl⟩ := decodeDT_eq_ok.1 h
    exact ⟨rfl, by rw [encode, htag]; rfl⟩
  | 0x0D, h => decodeZ_hasFields h ⟨rfl, rfl⟩
  | 0x0E, h => decodeZ_hasFields h ⟨rfl, rfl⟩
  | op + 0x0F, h => by
    rw [decodeRow_of_le (Nat.le_add_left _ op)] at h
    cases h

/-- Settles O4: a word that decodes has no high bits, so it is the word of its fields. -/
theorem decodedWordIsItsEncoding : Obligations.DecodedWordIsItsEncoding := by
  intro c i h
  by_cases hhigh : slice c 23 9 = 0
  · obtain ⟨op, d, a, b, rfl⟩ := exists_eq_packFields hhigh
    exact decodeRow_hasFields ((decode_packFields op d a b).symm.trans h)
  · rw [decode_of_highBits hhigh] at h
    cases h

/-! ## Illegal words -/

theorem exists_eq_error_iff {x : Except IllegalWord Instr} : (∃ e, x = .error e) ↔ ¬ ∃ i, x = .ok i := by
  cases x <;> simp

theorem not_isTripleBase_iff {i : PlaneReg} : i.isTripleBase = false ↔ 30 ≤ (i : Nat) := by
  simp [PlaneReg.isTripleBase, Nat.succ_le_iff]

theorem exists_token_val_iff {n : Nat} : (∃ t : TokenReg, (t : Nat) = n) ↔ n < 4 :=
  ⟨fun ⟨t, h⟩ => h ▸ t.isLt, fun h => ⟨⟨n, h⟩, rfl⟩⟩

theorem exists_tag_code_iff {n : Nat} : (∃ tag : Tag, tag.code = n) ↔ n < 4 :=
  ⟨fun ⟨tag, h⟩ => h ▸ Tag.code_lt tag, fun h => ⟨Tag.ofCode n, Tag.code_ofCode h⟩⟩

section Formats

variable {d a b : PlaneReg}

theorem decodeZ_error_iff {j : Instr} : (∃ e, decodeZ d a b j = .error e) ↔ d ≠ 0 ∨ a ≠ 0 ∨ b ≠ 0 := by
  simp [exists_eq_error_iff, decodeZ_eq_ok, imp_iff_not_or]

theorem decodeDA_error_iff {f : PlaneReg → PlaneReg → Instr} : (∃ e, decodeDA d a b f = .error e) ↔ b ≠ 0 := by
  simp [exists_eq_error_iff, decodeDA_eq_ok]

theorem decodeDA3_error_iff {f : PlaneReg → PlaneReg → Instr} :
    (∃ e, decodeDA3 d a b f = .error e) ↔ b ≠ 0 ∨ 30 ≤ (d : Nat) ∨ 30 ≤ (a : Nat) := by
  simp [exists_eq_error_iff, decodeDA3_eq_ok, not_isTripleBase_iff, imp_iff_not_or]

theorem decodeAB3_error_iff {f : PlaneReg → PlaneReg → Instr} :
    (∃ e, decodeAB3 d a b f = .error e) ↔ d ≠ 0 ∨ 30 ≤ (a : Nat) ∨ 30 ≤ (b : Nat) := by
  simp [exists_eq_error_iff, decodeAB3_eq_ok, not_isTripleBase_iff, imp_iff_not_or]

theorem decodeDAB3_error_iff {f : PlaneReg → PlaneReg → PlaneReg → Instr} :
    (∃ e, decodeDAB3 d a b f = .error e) ↔ 30 ≤ (d : Nat) ∨ 30 ≤ (a : Nat) ∨ 30 ≤ (b : Nat) := by
  simp [exists_eq_error_iff, decodeDAB3_eq_ok, not_isTripleBase_iff, imp_iff_not_or]

theorem decodeTA_error_iff {f : TokenReg → PlaneReg → Instr} :
    (∃ e, decodeTA d a b f = .error e) ↔ b ≠ 0 ∨ 4 ≤ (d : Nat) := by
  rw [exists_eq_error_iff, ← not_lt, ← exists_token_val_iff]
  simp [decodeTA_eq_ok, imp_iff_not_or]

theorem decodeDT_error_iff {f : PlaneReg → Tag → Instr} :
    (∃ e, decodeDT d a b f = .error e) ↔ b ≠ 0 ∨ 4 ≤ (a : Nat) := by
  rw [exists_eq_error_iff, ← not_lt, ← exists_tag_code_iff]
  simp [decodeDT_eq_ok, imp_iff_not_or]

end Formats

/-- The rows of the opcode map refuse exactly the fields of spec/30_encoding.md R73. -/
theorem decodeRow_error_iff (op : Fin 256) (d a b : PlaneReg) :
    (∃ e, decodeRow op d a b = .error e) ↔ isIllegalWord (packFields op d a b) := by
  obtain ⟨hop, hd, ha, hb, hhigh⟩ := slice_packFields op.isLt d.isLt a.isLt b.isLt
  simp only [isIllegalWord, hop, hd, ha, hb, hhigh]
  obtain ⟨op, -⟩ := op
  by_cases hle : 0x0F ≤ op
  · simp [decodeRow_of_le hle, hle]
  · interval_cases op <;>
      simp [decodeRow, decodeZ_error_iff, decodeDA_error_iff, decodeDA3_error_iff, decodeAB3_error_iff,
        decodeDAB3_error_iff, decodeTA_error_iff, decodeDT_error_iff]

theorem decode_error_iff (c : Word) : (∃ e, decode c = .error e) ↔ isIllegalWord c := by
  by_cases hhigh : slice c 23 9 = 0
  · obtain ⟨op, d, a, b, rfl⟩ := exists_eq_packFields hhigh
    rw [decode_packFields, decodeRow_error_iff]
  · exact iff_of_true ⟨_, decode_of_highBits hhigh⟩ (.inr (.inl hhigh))

theorem writeCmd_of_error {c : Word} {s : State} {e : IllegalWord} (hrun : s.fault = false)
    (h : decode c = .error e) : writeCmd c s = .next (s.raiseFault .illegal c) := by
  simp [writeCmd, hrun, h]

/-- Settles O5: the refusals row by row, and the `CMD` write of a word that is refused. -/
theorem illegalWordsFaultAndNoOthers : Obligations.IllegalWordsFaultAndNoOthers := by
  refine fun c => ⟨decode_error_iff c, fun s rest hillegal hrun hhost => ?_⟩
  obtain ⟨e, he⟩ := (decode_error_iff c).2 hillegal
  have hstep : step s = writeCmd c (afterAccess s rest .done) := step_write hhost rfl
  exact hstep.trans (writeCmd_of_error hrun he)

/-- Settles O22: the check of decoding comes first. -/
theorem illFormedTripleRaisesIllegal : Obligations.IllFormedTripleRaisesIllegal := by
  intro i s hrun hwf
  have hfirst : firstFailure (legalWord i :: checksOf i s) = some .illegal := by
    simp [legalWord, firstFailure, hwf]
  exact (exec_eq_runCommand i s).trans (runCommand_failed hrun hfirst)

/-! ## Worked encodings -/

/-- Settles O6: the fifteen words encode the commands of their rows, and the four illegal words meet R73. -/
theorem workedEncodingsDecode : Obligations.WorkedEncodingsDecode := by
  have hlegal {c : Word} (i : Instr) (hwf : i.wellFormed = true) (hc : encode i = c) : decode c = .ok i :=
    hc ▸ decodeOfEncodeIsTheCommand i hwf
  exact ⟨hlegal .nop rfl rfl, hlegal (.csc 0 0) rfl rfl, hlegal (.lpf 4 1) rfl rfl, hlegal (.mest 6 3) rfl rfl,
    hlegal (.delta 9 6 3) rfl rfl, hlegal (.subs 12 10) rfl rfl, hlegal (.dct 14 9) rfl rfl,
    hlegal (.quant 17 14) rfl rfl, hlegal (.dcpred 20 17) rfl rfl, hlegal (.zigzag 23 17) rfl rfl,
    hlegal (.tokens 0 23) rfl rfl, hlegal (.copy 6 3) rfl rfl, hlegal (.pdef 0 .fullsize) rfl rfl,
    hlegal .frame rfl rfl, hlegal .endseq rfl rfl, (decode_error_iff _).2 (by decide),
    (decode_error_iff _).2 (by decide), (decode_error_iff _).2 (by decide), (decode_error_iff _).2 (by decide)⟩

end Sys2Proof.Machine
end

section
/-! SUPPORT. A command by its first failing check, the checks of frame operands, and the frame of a command that writes a
triple. -/

namespace Sys2Proof.Machine

open Sys2Proof Claims

/-! ## The first failing check -/

theorem firstFailure_cons_pass {l : List (Bool × FaultCode)} {p : Bool} {code : FaultCode} (h : p = true) :
    firstFailure ((p, code) :: l) = firstFailure l := if_pos h

theorem firstFailure_cons_fail {l : List (Bool × FaultCode)} {p : Bool} {code : FaultCode} (h : ¬p = true) :
    firstFailure ((p, code) :: l) = some code := if_neg h

/-- A legal command on a running engine faults with the code of its first failing check. -/
theorem faultsWith_of_firstFailure {i : Instr} {s : State} {code : FaultCode} (hrun : s.fault = false)
    (hlegal : i.wellFormed = true) (h : firstFailure (checksOf i s) = some code) : faultsWith i s code :=
  (exec_eq_runCommand i s).trans (runCommand_failed hrun ((firstFailure_cons_pass hlegal).trans h))

/-- A legal command on a running engine completes when no check fails. -/
theorem exec_completed {i : Instr} {s : State} (hrun : s.fault = false) (hlegal : i.wellFormed = true)
    (h : firstFailure (checksOf i s) = none) : exec i s = .next (effectOf i s).countCommand :=
  (exec_eq_runCommand i s).trans (runCommand_completed hrun ((firstFailure_cons_pass hlegal).trans h))

/-! ## The checks of frame operands (spec/60_exceptions.md R167) -/

theorem allValid_map_iff {s : State} {ks : List Nat} : allValid (ks.map s.plane) = true ↔ allValidAt s ks := by
  simp [allValid]

theorem allTagged_map_iff {s : State} {tags : List Tag} {ks : List Nat} :
    allTagged tags (ks.map s.plane) = true ↔ allTaggedAt s tags ks := by
  simp [allTagged]

theorem allSized_map_iff {s : State} {w h : Nat} {ks : List Nat} :
    allSized w h (ks.map s.plane) = true ↔ allSizedAt s w h ks := by
  simp [allSized]

/-- The three checks of a command whose sources are the `FULLSIZE` planes numbered in `ks`, all `w` by `h`. -/
def frameOperandChecks (s : State) (w h : Nat) (ks : List Nat) : List (Bool × FaultCode) :=
  [(allValid (ks.map s.plane), .unwritten), (allTagged [.fullsize] (ks.map s.plane), .tag),
   (allSized w h (ks.map s.plane), .shape)]

section FrameOperands

variable {s : State} {w h : Nat} {ks : List Nat}

theorem firstFailure_frameOperands_unwritten (hvalid : ¬allValidAt s ks) :
    firstFailure (frameOperandChecks s w h ks) = some .unwritten :=
  firstFailure_cons_fail (mt allValid_map_iff.1 hvalid)

theorem firstFailure_frameOperands_tag (hvalid : allValidAt s ks) (htag : ¬allTaggedAt s [.fullsize] ks) :
    firstFailure (frameOperandChecks s w h ks) = some .tag :=
  (firstFailure_cons_pass (allValid_map_iff.2 hvalid)).trans (firstFailure_cons_fail (mt allTagged_map_iff.1 htag))

theorem firstFailure_frameOperands_size (hvalid : allValidAt s ks) (htag : allTaggedAt s [.fullsize] ks) :
    firstFailure (frameOperandChecks s w h ks) = firstFailure [(allSized w h (ks.map s.plane), .shape)] :=
  (firstFailure_cons_pass (allValid_map_iff.2 hvalid)).trans (firstFailure_cons_pass (allTagged_map_iff.2 htag))

theorem firstFailure_frameOperands_shape (hvalid : allValidAt s ks) (htag : allTaggedAt s [.fullsize] ks)
    (hsize : ¬allSizedAt s w h ks) : firstFailure (frameOperandChecks s w h ks) = some .shape :=
  (firstFailure_frameOperands_size hvalid htag).trans (firstFailure_cons_fail (mt allSized_map_iff.1 hsize))

theorem firstFailure_frameOperands_none (hvalid : allValidAt s ks) (htag : allTaggedAt s [.fullsize] ks)
    (hsize : allSizedAt s w h ks) : firstFailure (frameOperandChecks s w h ks) = none :=
  (firstFailure_frameOperands_size hvalid htag).trans (firstFailure_cons_pass (allSized_map_iff.2 hsize))

end FrameOperands

/-! ## A command that writes a triple -/

theorem otherPlanesSame_setTriple (s : State) {i : Nat} (p q r : Plane) (h : i + 2 < 32) :
    otherPlanesSame (tripleAt i) s (s.setTriple i p q r) := by
  intro k _ hk
  simp only [tripleAt, List.mem_cons, List.not_mem_nil, or_false, not_or] at hk
  obtain ⟨hfirst, hsecond, hthird⟩ := hk
  rw [State.plane_setTriple s k p q r h, if_neg hfirst, if_neg hsecond, if_neg hthird]

/-- The effect of a command whose destination is a triple, and the count. -/
theorem planeFrame_setTriple (s : State) {i : Nat} (p q r : Plane) (h : i + 2 < 32) :
    planeFrame (tripleAt i) s (s.setTriple i p q r).nextDraw.countCommand := by
  refine ⟨by simp [hostSideSame], by simp [sequenceSame], fun k hk hne => ?planes, fun k _ _ => by simp,
    by simp, by simp⟩
  rw [State.countCommand_plane, State.nextDraw_plane]
  exact otherPlanesSame_setTriple s p q r h k hk hne

theorem State.plane_setTriple_members (s : State) {i : Nat} (p q r : Plane) (h : i + 2 < 32) :
    (s.setTriple i p q r).plane i = p ∧ (s.setTriple i p q r).plane (i + 1) = q ∧
      (s.setTriple i p q r).plane (i + 2) = r := by
  simp [State.plane_setTriple _ _ _ _ _ h]

theorem Plane.buildIdx_isPlane (w h : Nat) (tag : Tag) (f : Nat → Sample) :
    isPlane (Plane.buildIdx w h tag f) w h tag :=
  ⟨rfl, rfl, rfl, rfl, rfl, Plane.buildIdx_length w h tag f⟩

/-- The model's literals are those of the statements. -/
theorem pick_eq_lit (f : SampleFormat) (b32 : BitVec 32) (b64 : BitVec 64) : f.pick b32 b64 = lit f b32 b64 := by
  cases f with
  | binary32 => exact BitVec.eq_of_toNat_eq (by simp [SampleFormat.pick, lit])
  | binary64 => rfl

end Sys2Proof.Machine
end

section
/-! THEOREM. The color conversion of `CSC` (spec/40_color_convert.md R90, R91). -/

namespace Sys2Proof.Machine

open Sys2Proof Claims

theorem csc_wellFormed {d a : PlaneReg} (hd : d.val ≤ 29) (ha : a.val ≤ 29) : (Instr.csc d a).wellFormed = true :=
  (Bool.and_eq_true _ _).mpr ⟨decide_eq_true hd, decide_eq_true ha⟩

theorem firstFailure_csc (d a : PlaneReg) (s : State) : firstFailure (checksOf (.csc d a) s) =
    firstFailure (frameOperandChecks s (s.plane a.val).w (s.plane a.val).h (tripleAt a.val)) := rfl

/-! ## The formulas with their literals -/

section Formulas

variable (n : Arith) (r g b : Sample)

theorem cscY_eq : cscY n r g b =
    fadd n (fadd n (fmul n (lit n.format 0x3E991687 0x3FD322D0E5604189) r)
      (fmul n (lit n.format 0x3F1645A2 0x3FE2C8B439581062) g))
      (fmul n (lit n.format 0x3DE76C8B 0x3FBCED916872B021) b) := by
  simp only [cscY, k0_299, k0_587, k0_113, pick_eq_lit]

theorem cscCb_eq : cscCb n r g b =
    fadd n (fsub n (fsub n (c128 n.format) (fmul n (lit n.format 0x3E2CC921 0x3FC5992428D434A0) r))
      (fmul n (lit n.format 0x3EA99B6F 0x3FD5336DEB95E5B0) g)) (fmul n (half n.format) b) := by
  simp only [cscCb, k128, k0_168736, k0_331264, k0_5, pick_eq_lit, c128, half]

theorem cscCr_eq : cscCr n r g b =
    fsub n (fsub n (fadd n (c128 n.format) (fmul n (half n.format) r))
      (fmul n (lit n.format 0x3ED65E46 0x3FDACBC8C0CE91C9) g))
      (fmul n (lit n.format 0x3DA686E8 0x3FB4D0DCFCC5B8DC) b) := by
  simp only [cscCr, k128, k0_5, k0_418688, k0_081312, pick_eq_lit, c128, half]

end Formulas

/-! ## The destination planes -/

theorem cscPlane_isPlane (f : Sample → Sample → Sample → Sample) (s : State) (a : Nat) :
    isPlane (cscPlane f s a) (s.plane a).w (s.plane a).h .fullsize := Plane.buildIdx_isPlane _ _ _ _

theorem nth_cscPlane (f : Sample → Sample → Sample → Sample) (s : State) (a : Nat) {k : Nat}
    (hk : k < (s.plane a).w * (s.plane a).h) :
    (cscPlane f s a).nth k = f ((s.plane a).nth k) ((s.plane (a + 1)).nth k) ((s.plane (a + 2)).nth k) :=
  Plane.nth_buildIdx _ _ hk

/-- The three planes are built from the state before the command, so an overlap of the triples does not matter. -/
theorem cscEffect_planes (s : State) {d : Nat} (a : Nat) (hd : d + 2 < 32) :
    let t := (cscEffect d a s).countCommand
    t.plane d = cscPlane (cscY s.arith) s a ∧ t.plane (d + 1) = cscPlane (cscCb s.arith) s a ∧
      t.plane (d + 2) = cscPlane (cscCr s.arith) s a := by
  intro t
  have hplane (k : Nat) : t.plane k = _ := (State.countCommand_plane _ k).trans (State.nextDraw_plane _ k)
  rw [hplane, hplane, hplane]
  exact State.plane_setTriple_members s _ _ _ hd

theorem cscEffect_planeFrame (s : State) {d : Nat} (a : Nat) (hd : d + 2 < 32) :
    planeFrame (tripleAt d) s (cscEffect d a s).countCommand := by
  rw [cscEffect]
  exact planeFrame_setTriple s _ _ _ hd

/-- Settles O28: the first failing check is the fault, else each destination is one formula of the source samples. -/
theorem cscConvertsEachPixel : Obligations.CscConvertsEachPixel := by
  intro s d a hrun hd ha w h ks
  have hlegal := csc_wellFormed hd ha
  have hfault {code : FaultCode} (hc : firstFailure (frameOperandChecks s w h ks) = some code) :
      faultsWith (.csc d a) s code :=
    faultsWith_of_firstFailure hrun hlegal ((firstFailure_csc d a s).trans hc)
  refine ⟨fun hvalid => ?unwritten, fun hvalid htag => ?tag, fun hvalid htag hsize => ?shape,
    fun hvalid htag hsize => ?completes⟩
  case unwritten => exact hfault (firstFailure_frameOperands_unwritten hvalid)
  case tag => exact hfault (firstFailure_frameOperands_tag hvalid htag)
  case shape => exact hfault (firstFailure_frameOperands_shape hvalid htag hsize)
  case completes =>
    have hpass := (firstFailure_csc d a s).trans (firstFailure_frameOperands_none hvalid htag hsize)
    have hexec := exec_completed hrun hlegal hpass
    have hd' : d.val + 2 < 32 := by omega
    obtain ⟨hy, hcb, hcr⟩ := cscEffect_planes s a.val hd'
    refine ⟨(cscEffect d a s).countCommand, hexec, cscEffect_planeFrame s a.val hd', ?planes, fun k hk => ?samples⟩
    case planes =>
      rw [List.forall_mem_cons, List.forall_mem_cons, List.forall_mem_singleton, hy, hcb, hcr]
      exact ⟨cscPlane_isPlane _ s a, cscPlane_isPlane _ s a, cscPlane_isPlane _ s a⟩
    case samples =>
      simp only [hy, hcb, hcr, nth_cscPlane _ s a.val hk]
      exact ⟨cscY_eq .., cscCb_eq .., cscCr_eq ..⟩

end Sys2Proof.Machine
end

section
/-! SUPPORT. The checks and the frame of a command that reads one plane and writes one. -/

namespace Sys2Proof.Machine

open Sys2Proof Claims

theorem allValid_singleton_iff {p : Plane} : allValid [p] = true ↔ p.state = .valid := by simp [allValid]

theorem allTagged_singleton_iff {tags : List Tag} {p : Plane} : allTagged tags [p] = true ↔ p.tag ∈ tags := by
  simp [allTagged]

/-- The effect of a command whose destination is one plane, and the count. -/
theorem planeFrame_setPlane (s : State) (i : Nat) (p : Plane) :
    planeFrame [i] s (s.setPlane i p).nextDraw.countCommand := by
  refine ⟨by simp [hostSideSame], by simp [sequenceSame], fun k hk hne => ?planes, fun k _ _ => by simp,
    by simp, by simp⟩
  rw [State.countCommand_plane, State.nextDraw_plane]
  exact otherPlanesSame_setPlane s i p k hk hne

theorem Plane.build_isPlane (w h : Nat) (tag : Tag) (f : Nat → Nat → Sample) :
    isPlane (Plane.build w h tag f) w h tag := Plane.buildIdx_isPlane w h tag _

end Sys2Proof.Machine
end

section
/-! SUPPORT. Rounding at a known spacing, sums of patterns of one sign, and the tap of three equal samples
(spec/41_chroma_lowpass.md R96, R99). -/

namespace Sys2Proof.Machine

open Sys2Proof

/-! ## Rounding at a known spacing -/

theorem roundEven_mul_right (num den : Nat) {c : Nat} (h : 0 < c) :
    roundEven (num * c) (den * c) = roundEven num den := by
  have hlow : 2 * (num % den * c) < den * c ↔ 2 * (num % den) < den := by
    rw [← Nat.mul_assoc]; exact Nat.mul_lt_mul_right h
  have hup : den * c < 2 * (num % den * c) ↔ den < 2 * (num % den) := by
    rw [← Nat.mul_assoc]; exact Nat.mul_lt_mul_right h
  simp only [roundEven, Nat.mul_div_mul_right _ _ h, Nat.mul_mod_mul_right, hlow, hup]

/-- `x * 2^j` units are rounded at the spacing of `2^(i+j)` when `x` lies in the range of spacing `2^i`. -/
theorem roundMagUnbounded_of_bounds {f : SampleFormat} {i x : Nat} (j : Nat) (hlow : 2 ^ f.fracBits * 2 ^ i ≤ x)
    (hup : x < 2 * 2 ^ f.fracBits * 2 ^ i) :
    roundMagUnbounded f (x * 2 ^ j) 1 = (i + j) * 2 ^ f.fracBits + roundEven x (2 ^ i) := by
  have hlog : Nat.log2 (x * 2 ^ j) = f.fracBits + (i + j) := by
    have hx : x ≠ 0 := fun h0 => absurd (h0 ▸ hlow) (Nat.not_le.2 (by positivity))
    refine (Nat.log2_eq_iff (Nat.mul_ne_zero hx (by positivity))).2 ⟨?_, ?_⟩
    · calc 2 ^ (f.fracBits + (i + j)) = 2 ^ f.fracBits * 2 ^ i * 2 ^ j := by ring
        _ ≤ x * 2 ^ j := Nat.mul_le_mul_right _ hlow
    · calc x * 2 ^ j < 2 * 2 ^ f.fracBits * 2 ^ i * 2 ^ j := Nat.mul_lt_mul_of_pos_right hup (by positivity)
        _ = 2 ^ (f.fracBits + (i + j) + 1) := by ring
  rw [roundMagUnbounded, Nat.div_one, hlog, Nat.add_sub_cancel_left, one_mul, pow_add,
    roundEven_mul_right _ _ (by positivity)]

/-- The value of the rounded pattern: `x` rounded to a multiple of `2^i`, times `2^j`. -/
theorem magUnits_roundMagUnbounded_of_bounds {f : SampleFormat} {i x : Nat} (j : Nat)
    (hlow : 2 ^ f.fracBits * 2 ^ i ≤ x) (hup : x < 2 * 2 ^ f.fracBits * 2 ^ i) :
    magUnits f (roundMagUnbounded f (x * 2 ^ j) 1) = roundEven x (2 ^ i) * 2 ^ i * 2 ^ j := by
  have hD : 0 < 2 ^ i := by positivity
  obtain ⟨hle, hge⟩ := roundEven_near x hD
  have hscale : IsScale f (i + j) (roundEven x (2 ^ i)) := by
    constructor
    · refine Nat.lt_succ_iff.1 (Nat.lt_of_mul_lt_mul_right (a := 2 ^ i) ?_)
      rw [Nat.succ_mul]; omega
    · refine .inr (Nat.lt_succ_iff.1 (Nat.lt_of_mul_lt_mul_right (a := 2 ^ i) ?_))
      rw [Nat.succ_mul]; omega
  rw [roundMagUnbounded_of_bounds j hlow hup, magUnits_scale hscale, pow_add, Nat.mul_assoc]

/-! ## Three quarters and a quarter

With a constant of `4s` units of `2^j`, the first sum of the tap rounds `3s` of them to some `y`, the second `y + s`. -/

/-- `y` is `3s` rounded to a multiple of 2 below `4F`, and to one of 4 from there on, `F` being the least significand of a
normal value. -/
def IsThreeQuarters (F s y : Nat) : Prop :=
  3 * s < 4 * F ∧ y = roundEven (3 * s) 2 * 2 ∨ 4 * F ≤ 3 * s ∧ y = roundEven (3 * s) 4 * 4

/-- The first rounding moves `3s` so little that the second gives `4s`: only at the spacing 4 can it be off by 2, half a
spacing of the second, and then `s` is even and wins the tie. -/
theorem roundEven_quarters {F s y : Nat} (hF : F % 2 = 0) (hlow : F ≤ s) (hup : s < 2 * F)
    (hy : IsThreeQuarters F s y) : y ≤ 4 * s ∧ 4 * F ≤ y + s ∧ y + s < 8 * F ∧ roundEven (y + s) 4 = s := by
  unfold IsThreeQuarters at hy
  have hnear2 := roundEven_near (3 * s) (den := 2) (by decide)
  have hnear : y ≤ 3 * s + 2 ∧ 3 * s ≤ y + 2 := by
    have hnear4 := roundEven_near (3 * s) (den := 4) (by decide)
    omega
  have htie : y = 3 * s + 2 ∨ 3 * s = y + 2 → s % 2 = 0 := by omega
  have hbottom : s = F → 3 * s = y := by omega
  have hnear' := roundEven_near (y + s) (den := 4) (by decide)
  have htie' := roundEven_even_of_tie (num := y + s) (den := 4) (by decide)
  omega

/-- The value of the first sum: its spacing is `2^(j+1)` or `2^(j+2)` units. -/
theorem exists_threeQuarters {f : SampleFormat} {s : Nat} (j : Nat) (hlow : 2 ^ f.fracBits ≤ s)
    (hup : s < 2 * 2 ^ f.fracBits) :
    ∃ y, IsThreeQuarters (2 ^ f.fracBits) s y ∧
      magUnits f (roundMagUnbounded f (3 * s * 2 ^ j) 1) = y * 2 ^ j := by
  obtain hs | hs := Nat.lt_or_ge (3 * s) (4 * 2 ^ f.fracBits)
  · exact ⟨_, .inl ⟨hs, rfl⟩, magUnits_roundMagUnbounded_of_bounds (i := 1) j (by omega) (by omega)⟩
  · exact ⟨_, .inr ⟨hs, rfl⟩, magUnits_roundMagUnbounded_of_bounds (i := 2) j (by omega) (by omega)⟩

/-- Every magnitude that is zero or has an exponent above 2 has a quarter, a half, and a rounded sum of the two to which
the quarter adds up to the magnitude again. -/
theorem exists_quarters {f : SampleFormat} {m : Nat} (hm : m < f.infMag) (h : m = 0 ∨ 3 * 2 ^ f.fracBits ≤ m) :
    ∃ quarter half sum, 4 * magUnits f quarter = magUnits f m ∧ 2 * magUnits f half = magUnits f m ∧ sum < f.infMag ∧
      roundMag f (magUnits f quarter + magUnits f half) 1 = sum ∧
      roundMag f (magUnits f sum + magUnits f quarter) 1 = m := by
  obtain rfl | hlarge := h
  · exact ⟨0, 0, 0, by simp, by simp, hm, by simp [roundMag_zero], by simp [roundMag_zero]⟩
  obtain ⟨k, s, rfl, hs, hscale⟩ := exists_scale f m
  obtain ⟨j, rfl⟩ : ∃ j, k = j + 2 := by
    match k, hlarge with
    | 0, hlarge => omega
    | 1, hlarge => omega
    | j + 2, _ => exact ⟨j, rfl⟩
  have hF : 2 ^ f.fracBits ≤ s := hscale.2.resolve_left (by omega)
  have hval (k : Nat) : magUnits f (k * 2 ^ f.fracBits + s) = s * 2 ^ k := magUnits_scale ⟨hs.le, .inr hF⟩
  obtain ⟨y, hy, hsum⟩ := exists_threeQuarters j hF hs
  obtain ⟨hle, hlow, hup, hround⟩ := roundEven_quarters f.two_pow_fracBits_even hF hs hy
  have hsumLe : roundMagUnbounded f (3 * s * 2 ^ j) 1 ≤ (j + 2) * 2 ^ f.fracBits + s := by
    rw [← (magUnits_strictMono f).le_iff_le, hsum, hval, pow_add]
    calc y * 2 ^ j ≤ 4 * s * 2 ^ j := Nat.mul_le_mul_right _ hle
      _ = s * (2 ^ j * 2 ^ 2) := by ring
  have hsumLt := hsumLe.trans_lt hm
  refine ⟨j * 2 ^ f.fracBits + s, (j + 1) * 2 ^ f.fracBits + s, _, ?_, ?_, hsumLt, ?_, ?_⟩
  · rw [hval, hval]; ring
  · rw [hval, hval]; ring
  · rw [hval, hval, roundMag_eq_min, show s * 2 ^ j + s * 2 ^ (j + 1) = 3 * s * 2 ^ j by ring, min_eq_left hsumLt.le]
  · rw [hval, hsum, ← Nat.add_mul, roundMag_eq_min, roundMagUnbounded_of_bounds (i := 2) j (by omega) (by omega),
      show roundEven (y + s) (2 ^ 2) = s from hround, Nat.add_comm 2 j, min_eq_left hm.le]

/-! ## The primitives on patterns of one sign -/

/-- The sum of two finite patterns of one sign. -/
theorem fadd_packFloat (n : Arith) (neg : Bool) {x y : Nat} (hx : x < n.format.infMag) (hy : y < n.format.infMag) :
    fadd n (packFloat n.format neg x) (packFloat n.format neg y) =
      packFloat n.format neg (roundMag n.format (magUnits n.format x + magUnits n.format y) 1) := by
  have hfinite {z : Nat} (hz : z < n.format.infMag) : isFinite n.format (packFloat n.format neg z) = true := by
    rw [isFinite_packFloat (hz.trans n.format.infMag_lt)]; exact decide_eq_true hz
  have hsign {z : Nat} (hz : z < n.format.infMag) : fsign n.format (packFloat n.format neg z) = neg :=
    fsign_packFloat (hz.trans n.format.infMag_lt)
  have hunits {z : Nat} (hz : z < n.format.infMag) : units n.format (packFloat n.format neg z) = magUnits n.format z :=
    units_packFloat (hz.trans n.format.infMag_lt)
  rw [fadd_of_isFinite n (hfinite hx) (hfinite hy), addNonNaN_of_isFinite n _ (hfinite hx) (hfinite hy)]
  simp only [sunits, hsign hx, hsign hy, hunits hx, hunits hy, Bool.and_self]
  have hmag : ((if neg then -(magUnits n.format x : Int) else magUnits n.format x) +
      if neg then -(magUnits n.format y : Int) else magUnits n.format y).natAbs =
      magUnits n.format x + magUnits n.format y := by split <;> omega
  rw [hmag]
  congr 1 -- the sign, which an exact zero has too, as both terms have it
  cases neg <;> simp <;> omega

/-- A product with `1/d` where a pattern holds the exact quotient. -/
theorem fmul_reciprocal (n : Arith) {a c : Sample} {d m : Nat} (ha : isFinite n.format a = true)
    (hsign : fsign n.format a = false) (hd : d * units n.format a = n.format.unitsOne)
    (hc : isFinite n.format c = true) (hm : d * magUnits n.format m = units n.format c) :
    fmul n a c = packFloat n.format (fsign n.format c) m := by
  have hpos : 0 < d := Nat.pos_of_ne_zero fun h0 => by
    have := n.format.unitsOne_pos
    simp [h0] at hd; omega
  have hle : m ≤ n.format.infMag := by
    have : magUnits n.format m ≤ magUnits n.format (fmag n.format c) :=
      (Nat.le_mul_of_pos_left _ hpos).trans hm.le
    exact ((magUnits_strictMono n.format).le_iff_le.1 this).trans (of_decide_eq_true hc).le
  have hprod : units n.format a * units n.format c = magUnits n.format m * n.format.unitsOne := by
    rw [← hm, ← hd]; ring
  rw [fmul_of_isFinite n ha hc, hsign, Bool.false_bne, hprod, roundMag_magUnits_mul n.format.unitsOne_pos hle]

theorem k0_25_value (f : SampleFormat) :
    isFinite f (k0_25 f) = true ∧ fsign f (k0_25 f) = false ∧ 4 * units f (k0_25 f) = f.unitsOne := by
  cases f <;> decide +kernel

theorem k0_5_value (f : SampleFormat) :
    isFinite f (k0_5 f) = true ∧ fsign f (k0_5 f) = false ∧ 2 * units f (k0_5 f) = f.unitsOne := by
  cases f <;> decide +kernel

/-! ## The tap -/

/-- The tap of three equal samples that are zero or not below `2^-124` (with `F` = binary64, `2^-1020`). -/
theorem lpfTap_self (n : Arith) {c : Sample} (hc : isFinite n.format c = true)
    (h : fmag n.format c = 0 ∨ 3 * 2 ^ n.format.fracBits ≤ fmag n.format c) : lpfTap n c c c = c := by
  have hm : fmag n.format c < n.format.infMag := of_decide_eq_true hc
  obtain ⟨quarter, half, sum, hquarter, hhalf, hsum, hfirst, hsecond⟩ := exists_quarters hm h
  have hlt {x : Nat} (hx : magUnits n.format x ≤ magUnits n.format (fmag n.format c)) : x < n.format.infMag :=
    ((magUnits_strictMono n.format).le_iff_le.1 hx).trans_lt hm
  obtain ⟨hfin4, hsign4, hval4⟩ := k0_25_value n.format
  obtain ⟨hfin2, hsign2, hval2⟩ := k0_5_value n.format
  rw [lpfTap, fmul_reciprocal n hfin4 hsign4 hval4 hc hquarter,
    fmul_reciprocal n hfin2 hsign2 hval2 hc hhalf,
    fadd_packFloat n _ (hlt (by omega)) (hlt (by omega)), hfirst, fadd_packFloat n _ hsum (hlt (by omega)), hsecond,
    packFloat_fsign_fmag]

end Sys2Proof.Machine
end

section
/-! THEOREM. The chroma smoother `LPF` (spec/41_chroma_lowpass.md R95 to R99). -/

namespace Sys2Proof.Machine

open Sys2Proof Claims

/-! ## The two passes -/

theorem lpfTap_eq_tap (n : Arith) (p q r : Sample) : lpfTap n p q r = tap n p q r := by
  simp only [lpfTap, tap, k0_25, k0_5, pick_eq_lit, quarter, half]

theorem lpfHorizontal_eq_horizontal (n : Arith) (p : Plane) (x y : Nat) :
    lpfHorizontal n p x y = horizontal n p x y := by
  simp only [lpfHorizontal, horizontal, lpfInterior, decide_eq_true_eq, lpfTap_eq_tap]

theorem lpfInterior_iff {w h x y : Nat} :
    lpfInterior w h x y = true ↔ 1 ≤ x ∧ x + 2 ≤ w ∧ 1 ≤ y ∧ y + 2 ≤ h := decide_eq_true_iff

section Passes

variable {vpass : LpfVpass} {n : Arith} {p : Plane} {x y : Nat}

theorem lpfHorizontal_border (h : ¬lpfInterior p.w p.h x y = true) : lpfHorizontal n p x y = p.sample x y := if_neg h

theorem lpfVertical_border (h : ¬lpfInterior p.w p.h x y = true) : lpfVertical vpass n p x y = p.sample x y := by
  cases y with
  | zero => exact lpfHorizontal_border h
  | succ y => exact (if_neg h).trans (lpfHorizontal_border h)

/-- What the vertical pass reads above row `y` (spec/41_chroma_lowpass.md R97). -/
def lpfAbove (vpass : LpfVpass) (n : Arith) (p : Plane) (x y : Nat) : Sample :=
  match vpass with
  | .buffered => lpfHorizontal n p x (y - 1)
  | .inPlace => lpfVertical .inPlace n p x (y - 1)

theorem lpfVertical_interior (h : lpfInterior p.w p.h x y = true) : lpfVertical vpass n p x y =
    lpfTap n (lpfAbove vpass n p x y) (lpfHorizontal n p x y) (lpfHorizontal n p x (y + 1)) := by
  cases y with
  | zero => simp [lpfInterior] at h
  | succ y => cases vpass <;> exact if_pos h

/-- Where every sample is one that the tap gives back, both passes give it back. -/
theorem lpfHorizontal_const {c : Sample} (hc : lpfTap n c c c = c)
    (hp : ∀ x < p.w, ∀ y < p.h, p.sample x y = c) (hx : x < p.w) (hy : y < p.h) : lpfHorizontal n p x y = c := by
  by_cases h : lpfInterior p.w p.h x y = true
  · obtain ⟨_, hw, _, _⟩ := lpfInterior_iff.1 h
    rw [lpfHorizontal, if_pos h, hp _ (by omega) _ hy, hp _ hx _ hy, hp _ (by omega) _ hy, hc]
  · rw [lpfHorizontal_border h, hp _ hx _ hy]

theorem lpfVertical_const {c : Sample} (hc : lpfTap n c c c = c)
    (hp : ∀ x < p.w, ∀ y < p.h, p.sample x y = c) (hx : x < p.w) (hy : y < p.h) : lpfVertical vpass n p x y = c := by
  induction y with
  | zero => exact lpfHorizontal_const hc hp hx hy
  | succ y ih =>
    by_cases h : lpfInterior p.w p.h x (y + 1) = true
    · obtain ⟨_, _, _, hh⟩ := lpfInterior_iff.1 h
      have habove : lpfAbove vpass n p x (y + 1) = c := by
        cases vpass with
        | buffered => exact lpfHorizontal_const hc hp hx (by omega)
        | inPlace => exact ih (by omega)
      rw [lpfVertical_interior h, habove, lpfHorizontal_const hc hp hx hy, lpfHorizontal_const hc hp hx (by omega), hc]
    · rw [lpfVertical_border h, hp _ hx _ hy]

end Passes

/-! ## The command -/

section Command

variable {s : State} {d a : PlaneReg}

theorem firstFailure_lpf_unwritten (hvalid : (s.plane a.val).state ≠ .valid) :
    firstFailure (checksOf (.lpf d a) s) = some .unwritten :=
  firstFailure_cons_fail (mt allValid_singleton_iff.1 hvalid)

theorem firstFailure_lpf_tag (hvalid : (s.plane a.val).state = .valid) (htag : (s.plane a.val).tag ≠ .fullsize) :
    firstFailure (checksOf (.lpf d a) s) = some .tag :=
  (firstFailure_cons_pass (allValid_singleton_iff.2 hvalid)).trans
    (firstFailure_cons_fail (mt allTagged_singleton_iff.1 (mt List.mem_singleton.1 htag)))

theorem firstFailure_lpf_none (hvalid : (s.plane a.val).state = .valid) (htag : (s.plane a.val).tag = .fullsize) :
    firstFailure (checksOf (.lpf d a) s) = none :=
  (firstFailure_cons_pass (allValid_singleton_iff.2 hvalid)).trans
    (firstFailure_cons_pass (allTagged_singleton_iff.2 (List.mem_singleton.2 htag)))

theorem exec_lpf_completed (hrun : s.fault = false) (hvalid : (s.plane a.val).state = .valid)
    (htag : (s.plane a.val).tag = .fullsize) :
    exec (.lpf d a) s = .next (lpfEffect d.val a.val s).countCommand :=
  exec_completed hrun rfl (firstFailure_lpf_none hvalid htag)

/-- The destination is built from the state before the command, so `d = a` is allowed (spec/41_chroma_lowpass.md R95). -/
theorem lpfEffect_plane (s : State) (d a : PlaneReg) :
    (lpfEffect d.val a.val s).countCommand.plane d.val = lpfPlane s a.val := by
  rw [State.countCommand_plane, lpfEffect, State.nextDraw_plane, State.plane_setPlane_self _ _ d.isLt]

theorem sample_lpfPlane {x y : Nat} (hx : x < (s.plane a.val).w) (hy : y < (s.plane a.val).h) :
    (lpfPlane s a.val).sample x y = lpfVertical s.params.lpfVpass s.arith (s.plane a.val) x y :=
  Plane.sample_build _ _ hx hy

end Command

/-- Settles O29: the destination is the vertical pass of the horizontal one, by the border and the two settings of
`LPF_VPASS`. -/
theorem lpfSmoothsInTwoPasses : Obligations.LpfSmoothsInTwoPasses := by
  intro s d a hrun p
  refine ⟨fun hvalid => ?unwritten, fun hvalid htag => ?tag, fun hvalid htag => ?completes⟩
  case unwritten => exact faultsWith_of_firstFailure hrun rfl (firstFailure_lpf_unwritten hvalid)
  case tag => exact faultsWith_of_firstFailure hrun rfl (firstFailure_lpf_tag hvalid htag)
  case completes =>
    refine ⟨_, exec_lpf_completed hrun hvalid htag, planeFrame_setPlane s _ _, ?plane, fun x hx y hy => ?samples⟩
    all_goals rw [lpfEffect_plane]
    case plane => exact Plane.build_isPlane _ _ _ _
    case samples =>
      rw [sample_lpfPlane hx hy]
      split_ifs with hin
      · have habove : y - 1 < p.h := by omega
        rw [sample_lpfPlane hx habove, lpfVertical_interior (lpfInterior_iff.2 hin), lpfTap_eq_tap]
        simp only [← lpfHorizontal_eq_horizontal]
        cases s.params.lpfVpass <;> rfl
      · exact lpfVertical_border (mt lpfInterior_iff.1 hin)

/-- Settles O30: the tap gives the constant back, so both passes do, at either setting of `LPF_VPASS`. -/
theorem lpfKeepsAConstantPlane : Obligations.LpfKeepsAConstantPlane := by
  intro s d a c hrun hvalid htag f hfin hmag hconst
  refine ⟨_, exec_lpf_completed hrun hvalid htag, fun k hk => ?_⟩
  have hw : 0 < (s.plane a.val).w := Nat.pos_of_ne_zero fun h0 => by simp [h0] at hk
  have hy : k / (s.plane a.val).w < (s.plane a.val).h := Nat.div_lt_of_lt_mul hk
  have hsample : ∀ x < (s.plane a.val).w, ∀ y < (s.plane a.val).h, (s.plane a.val).sample x y = c :=
    fun x hx y hy => hconst _ (sampleIndex_lt hx hy)
  rw [lpfEffect_plane, lpfPlane, Plane.build, Plane.nth_buildIdx _ _ hk]
  exact lpfVertical_const (lpfTap_self s.arith hfin hmag) hsample (Nat.mod_lt k hw) hy

end Sys2Proof.Machine
end

section
/-! SUPPORT. Index pairs in raster order, and the candidate that the scan of spec/42_motion_estimator.md R103 ends at. -/

namespace Sys2Proof.Machine

open Sys2Proof

/-! ## Pairs of indices in raster order -/

/-- Entry number `j * n + i` of a list built row by row. -/
theorem getElem?_flatMap_range {α : Type} (g : Nat → Nat → α) {m n i j : Nat} (hi : i < n) (hj : j < m) :
    ((List.range m).flatMap fun y => (List.range n).map fun x => g x y)[j * n + i]? = some (g i j) := by
  induction m with
  | zero => omega
  | succ m ih =>
    have hlen : ((List.range m).flatMap fun y => (List.range n).map fun x => g x y).length = m * n := by
      simp [List.length_flatMap]
    rw [List.range_succ, List.flatMap_append, List.flatMap_singleton]
    obtain hearlier | rfl := Nat.lt_succ_iff_lt_or_eq.1 hj
    · have hin : j * n + i < m * n := Nat.mul_comm n m ▸ sampleIndex_lt hi hearlier
      rw [List.getElem?_append_left (hlen ▸ hin), ih hearlier]
    · rw [List.getElem?_append_right (by omega), hlen, Nat.add_sub_cancel_left]
      simp [hi]

theorem mem_searchedGrid {w h : Nat} {m : Nat × Nat} :
    m ∈ searchedGrid w h ↔ ∃ gx < gridCount w, ∃ gy < gridCount h, m = (gridOrigin gx, gridOrigin gy) := by
  simp only [searchedGrid, List.mem_flatMap, List.mem_map, List.mem_range]
  exact ⟨fun ⟨gy, hgy, gx, hgx, hm⟩ => ⟨gx, hgx, gy, hgy, hm.symm⟩,
    fun ⟨gx, hgx, gy, hgy, hm⟩ => ⟨gy, hgy, gx, hgx, hm.symm⟩⟩

/-- The place of candidate `(i, j)` in the scan (spec/42_motion_estimator.md R103). -/
def scanRank (ij : Nat × Nat) : Nat := ij.2 * 32 + ij.1

theorem rasterPairs_pairwise : (rasterPairs 32).Pairwise fun x y => scanRank x < scanRank y := by
  refine List.pairwise_flatMap.2 ⟨fun j _ => ?row, List.pairwise_lt_range.imp fun hj => ?rows⟩
  case row => exact List.pairwise_map.2 (List.pairwise_lt_range.imp (Nat.add_lt_add_left · _))
  case rows =>
    simp only [List.forall_mem_map, List.mem_range, scanRank]
    omega

/-- The scan starts at the first candidate and goes over the others. -/
theorem rasterPairs_eq_cons : (0, 0) :: (rasterPairs 32).tail = rasterPairs 32 := rfl

/-! ## Comparisons and the update test -/

theorem flt_iff {f : SampleFormat} {a b : Sample} :
    flt f a b = true ↔ isNaN f a = false ∧ isNaN f b = false ∧ orderKey f a < orderKey f b := by
  simp [flt, and_assoc]

theorem feq_iff {f : SampleFormat} {a b : Sample} :
    feq f a b = true ↔ isNaN f a = false ∧ isNaN f b = false ∧ orderKey f a = orderKey f b := by
  simp [feq, and_assoc]

theorem flt_self (f : SampleFormat) (a : Sample) : flt f a a = false :=
  Bool.eq_false_iff.2 fun h => by
    obtain ⟨-, -, hkey⟩ := flt_iff.1 h
    exact lt_irrefl _ hkey

/-- The update test of a tie rule on the keys of two costs that are no NaN, the candidate's and the incumbent's. -/
def improves (tie : MestTie) (x y : Int) : Prop :=
  match tie with
  | .first => x < y
  | .last => x ≤ y

theorem replaces_iff {f : SampleFormat} {tie : MestTie} {a b : Sample} : replaces f tie a b = true ↔
    isNaN f a = false ∧ isNaN f b = false ∧ improves tie (orderKey f a) (orderKey f b) := by
  cases tie with
  | first => exact flt_iff
  | last =>
    simp only [replaces, Bool.or_eq_true, flt_iff, feq_iff, improves, le_iff_lt_or_eq]
    tauto

/-! ## The scan -/

/-- Between equal costs, the candidate of rank `m` is taken rather than that of rank `n`. -/
def tiePrefers (tie : MestTie) (m n : Nat) : Prop :=
  match tie with
  | .first => m < n
  | .last => n < m

theorem not_tiePrefers_self (tie : MestTie) (m : Nat) : ¬tiePrefers tie m m := by
  cases tie <;> exact lt_irrefl m

/-- The incumbent `c` after the candidates `seen`: of those whose cost is no NaN it has the least, and less than those that
the tie rule would prefer to it. -/
structure IsIncumbent (f : SampleFormat) (tie : MestTie) (cost : Nat × Nat → Sample) (seen : List (Nat × Nat))
    (c : Nat × Nat) : Prop where
  mem : c ∈ seen
  number : isNaN f (cost c) = false
  least : ∀ x ∈ seen, isNaN f (cost x) = false → orderKey f (cost c) ≤ orderKey f (cost x) ∧
    (tiePrefers tie (scanRank x) (scanRank c) → orderKey f (cost c) < orderKey f (cost x))

section Scan

variable {f : SampleFormat} {tie : MestTie} {cost : Nat × Nat → Sample} {seen : List (Nat × Nat)} {best c : Nat × Nat}

theorem isIncumbent_first (h : isNaN f (cost best) = false) : IsIncumbent f tie cost [best] best := by
  refine ⟨List.mem_singleton_self best, h, List.forall_mem_singleton.2 fun _ => ⟨le_rfl, fun hprefers => ?_⟩⟩
  exact absurd hprefers (not_tiePrefers_self tie _)

theorem IsIncumbent.replaced (h : IsIncumbent f tie cost seen best) (hlater : ∀ x ∈ seen, scanRank x < scanRank c)
    (hreplaces : replaces f tie (cost c) (cost best) = true) : IsIncumbent f tie cost (seen ++ [c]) c := by
  obtain ⟨hnumber, -, himproves⟩ := replaces_iff.1 hreplaces
  refine ⟨by simp, hnumber, List.forall_mem_append.2 ⟨fun x hx hxnum => ?_, List.forall_mem_singleton.2 fun _ =>
    ⟨le_rfl, fun hprefers => absurd hprefers (not_tiePrefers_self tie _)⟩⟩⟩
  obtain ⟨hle, -⟩ := h.least x hx hxnum
  have hrank := hlater x hx
  cases tie <;> simp only [improves, tiePrefers] at himproves ⊢ <;> omega

theorem IsIncumbent.kept (h : IsIncumbent f tie cost seen best) (hlater : ∀ x ∈ seen, scanRank x < scanRank c)
    (hkeeps : ¬replaces f tie (cost c) (cost best) = true) : IsIncumbent f tie cost (seen ++ [c]) best := by
  refine ⟨List.mem_append_left _ h.mem, h.number, List.forall_mem_append.2 ⟨h.least,
    List.forall_mem_singleton.2 fun hcnum => ?_⟩⟩
  have hnot : ¬improves tie (orderKey f (cost c)) (orderKey f (cost best)) := fun himproves =>
    hkeeps (replaces_iff.2 ⟨hcnum, h.number, himproves⟩)
  have hrank := hlater best h.mem
  cases tie <;> simp only [improves, tiePrefers] at hnot ⊢ <;> omega

/-- The scan over candidates in the order of their ranks keeps the incumbent. -/
theorem scanBest_isIncumbent {rest : List (Nat × Nat)} (h : IsIncumbent f tie cost seen best)
    (horder : (seen ++ rest).Pairwise fun x y => scanRank x < scanRank y) :
    IsIncumbent f tie cost (seen ++ rest) (scanBest f tie cost best rest) := by
  induction rest generalizing seen best with
  | nil => rw [List.append_nil]; exact h
  | cons c rest ih =>
    obtain ⟨-, -, hbefore⟩ := List.pairwise_append.1 horder
    have hlater : ∀ x ∈ seen, scanRank x < scanRank c := fun x hx => hbefore x hx c List.mem_cons_self
    rw [List.append_cons] at horder ⊢
    rw [scanBest]
    split
    · next hreplaces => exact ih (h.replaced hlater hreplaces) horder
    · next hkeeps => exact ih (h.kept hlater hkeeps) horder

/-- The first candidate stays when no other replaces it. -/
theorem scanBest_eq_self {rest : List (Nat × Nat)} (h : ∀ c ∈ rest, replaces f tie (cost c) (cost best) = false) :
    scanBest f tie cost best rest = best := by
  induction rest with
  | nil => rfl
  | cons c rest ih =>
    obtain ⟨hc, hrest⟩ := List.forall_mem_cons.1 h
    rw [scanBest, hc, if_neg Bool.false_ne_true, ih hrest]

/-- A NaN is never replaced (spec/42_motion_estimator.md R103, log entry 15). -/
theorem scanBest_of_isNaN {rest : List (Nat × Nat)} (h : isNaN f (cost best) = true) :
    scanBest f tie cost best rest = best :=
  scanBest_eq_self fun c _ => Bool.eq_false_iff.2 fun hreplaces => by
    obtain ⟨-, hnumber, -⟩ := replaces_iff.1 hreplaces
    rw [h] at hnumber
    cases hnumber

/-- With `MEST_TIE = first` equal costs do not replace. -/
theorem scanBest_first_of_const {rest : List (Nat × Nat)} (h : ∀ c ∈ rest, cost c = cost best) :
    scanBest f .first cost best rest = best :=
  scanBest_eq_self fun c hc => h c hc ▸ flt_self f (cost c)

end Scan

end Sys2Proof.Machine
end

section
/-! THEOREM. The motion estimator `MEST` (spec/42_motion_estimator.md R100 to R106). -/

namespace Sys2Proof.Machine

open Sys2Proof Claims

/-! ## The cost of a candidate -/

theorem sadOf_eq_sad (n : Arith) (target reference : Plane) (mx my sx sy : Nat) :
    sadOf n target reference mx my sx sy = sad n target reference mx my sx sy := by
  simp only [sadOf, rasterPairs, List.foldl_flatMap, List.foldl_map, sad, kPosZero]

theorem gridOrigin_sub_add (g i : Nat) : gridOrigin g - 16 + i = 16 * g + i := by
  unfold gridOrigin; omega

theorem costOf_eq_cost (s : State) (a b gx gy i j : Nat) :
    costOf s a b (gridOrigin gx) (gridOrigin gy) (gridOrigin gx - 16 + i) (gridOrigin gy - 16 + j) =
      cost s a b gx gy i j := by
  simp only [costOf, sadOf_eq_sad, gridOrigin_sub_add, k0_5, k0_25, pick_eq_lit]
  rfl

/-! ## The vector of a block -/

/-- The candidate that the search of block `(gx, gy)` ends at. -/
def chosenCandidate (s : State) (a b gx gy : Nat) : Nat × Nat :=
  scanBest s.params.format s.params.mestTie (fun ij => cost s a b gx gy ij.1 ij.2) (0, 0) (rasterPairs 32).tail

theorem searchBlock_eq (s : State) (a b gx gy : Nat) : searchBlock s a b (gridOrigin gx) (gridOrigin gy) =
    { dx := ((chosenCandidate s a b gx gy).1 : Int) - 16, dy := ((chosenCandidate s a b gx gy).2 : Int) - 16 } := by
  simp only [searchBlock, chosenCandidate, costOf_eq_cost]

theorem chosenCandidate_isIncumbent {s : State} {a b gx gy : Nat}
    (h : isNaN s.params.format (cost s a b gx gy 0 0) = false) :
    IsIncumbent s.params.format s.params.mestTie (fun ij => cost s a b gx gy ij.1 ij.2) (rasterPairs 32)
      (chosenCandidate s a b gx gy) := by
  rw [← rasterPairs_eq_cons]
  exact scanBest_isIncumbent (seen := [(0, 0)]) (isIncumbent_first h) rasterPairs_pairwise

/-- The vector number `gy * nx + gx` is that of block `(gx, gy)` (spec/42_motion_estimator.md R104). -/
theorem getElem?_mestBuffer_vec (s : State) (a b : Nat) {gx gy : Nat} (hx : gx < gridCount (s.plane a).w)
    (hy : gy < gridCount (s.plane a).h) : (mestBuffer a b s).vec[gy * gridCount (s.plane a).w + gx]? =
      some (searchBlock s a b (gridOrigin gx) (gridOrigin gy)) := by
  rw [mestBuffer, List.getElem?_map, searchedGrid, getElem?_flatMap_range _ hx hy, Option.map_some]

theorem forall_mem_mestBuffer_vec {s : State} {a b : Nat} {p : MotionVec → Prop}
    (h : ∀ gx < gridCount (s.plane a).w, ∀ gy < gridCount (s.plane a).h,
      p (searchBlock s a b (gridOrigin gx) (gridOrigin gy))) : ∀ v ∈ (mestBuffer a b s).vec, p v := by
  refine List.forall_mem_map.2 fun m hm => ?_
  obtain ⟨gx, hx, gy, hy, rfl⟩ := mem_searchedGrid.1 hm
  exact h gx hx gy hy

/-! ## The command -/

theorem mest_wellFormed {a b : PlaneReg} (ha : a.val ≤ 29) (hb : b.val ≤ 29) : (Instr.mest a b).wellFormed = true :=
  (Bool.and_eq_true _ _).mpr ⟨decide_eq_true ha, decide_eq_true hb⟩

theorem firstFailure_mest (a b : PlaneReg) (s : State) : firstFailure (checksOf (.mest a b) s) =
    firstFailure (frameOperandChecks s (s.plane a.val).w (s.plane a.val).h (bothTriples a.val b.val)) := rfl

theorem mestEffect_mvb (a b : Nat) (s : State) : (mestEffect a b s).countCommand.mvb = mestBuffer a b s := rfl

theorem exec_mest_completed {s : State} {a b : PlaneReg} (hrun : s.fault = false) (ha : a.val ≤ 29) (hb : b.val ≤ 29)
    (hvalid : allValidAt s (bothTriples a.val b.val)) (htag : allTaggedAt s [.fullsize] (bothTriples a.val b.val))
    (hsize : allSizedAt s (s.plane a.val).w (s.plane a.val).h (bothTriples a.val b.val)) :
    exec (.mest a b) s = .next (mestEffect a.val b.val s).countCommand :=
  exec_completed hrun (mest_wellFormed ha hb)
    ((firstFailure_mest a b s).trans (firstFailure_frameOperands_none hvalid htag hsize))

/-- Settles O31: the first failing check is the fault, else the buffer has the form `MvBuffer.wf` asks for and nothing else
of the stores changes. -/
theorem mestFillsTheVectorBuffer : Obligations.MestFillsTheVectorBuffer := by
  intro s a b hrun ha hb w h ks
  have hfault {code : FaultCode} (hc : firstFailure (frameOperandChecks s w h ks) = some code) :
      faultsWith (.mest a b) s code :=
    faultsWith_of_firstFailure hrun (mest_wellFormed ha hb) ((firstFailure_mest a b s).trans hc)
  refine ⟨fun hvalid => ?unwritten, fun hvalid htag => ?tag, fun hvalid htag hsize => ?shape,
    fun hvalid htag hsize => ?completes⟩
  case unwritten => exact hfault (firstFailure_frameOperands_unwritten hvalid)
  case tag => exact hfault (firstFailure_frameOperands_tag hvalid htag)
  case shape => exact hfault (firstFailure_frameOperands_shape hvalid htag hsize)
  case completes =>
    obtain ⟨hcount, hlength, hbounds⟩ := mestBuffer_wf a.val b.val s
    refine ⟨_, exec_mest_completed hrun ha hb hvalid htag hsize, ?host, ?sequence, rfl, rfl, rfl, rfl, rfl, rfl, rfl,
      hlength, hbounds⟩
    case host => exact hostSideSame_trans (effectOf_hostSideSame (.mest a b) s) (countCommand_hostSideSame _)
    case sequence => simp [sequenceSame, mestEffect]

/-- Settles O32: the search ends at the incumbent of the whole scan, or at a first candidate whose cost is a NaN. -/
theorem mestPicksTheFirstLeastCost : Obligations.MestPicksTheFirstLeastCost := by
  intro s a b hrun ha hb w h ks f hvalid htag hsize
  refine ⟨_, exec_mest_completed hrun ha hb hvalid htag hsize, ?_⟩
  intro gx hx gy hy c
  have hvec := (getElem?_mestBuffer_vec s a.val b.val hx hy).trans (congrArg some (searchBlock_eq s _ _ _ _))
  rw [mestEffect_mvb]
  refine ⟨fun hnumber => ?number, fun hnan => ?nan⟩
  case number =>
    obtain ⟨hmem, hbest, hleast⟩ := chosenCandidate_isIncumbent hnumber
    obtain ⟨hi, hj⟩ := mem_rasterPairs.1 hmem
    refine ⟨_, _, hi, hj, hvec, hbest, fun i' j' hi' hj' => ?least, fun i' j' hi' hj' hnum hprefers => ?strict⟩
    case least =>
      refine Bool.eq_false_iff.2 fun hlt => ?_
      obtain ⟨hnum, -, hkey⟩ := flt_iff.1 hlt
      obtain ⟨hle, -⟩ := hleast (i', j') (mem_rasterPairs.2 ⟨hi', hj'⟩) hnum
      exact absurd hkey (not_lt.2 hle)
    case strict =>
      obtain ⟨-, hstrict⟩ := hleast (i', j') (mem_rasterPairs.2 ⟨hi', hj'⟩) hnum
      exact flt_iff.2 ⟨hbest, hnum, hstrict hprefers⟩
  case nan =>
    have hfirst : chosenCandidate s a.val b.val gx gy = (0, 0) := scanBest_of_isNaN hnan
    rw [hfirst] at hvec
    exact hvec

/-! ## Flat frames -/

section Zero

variable (n : Arith)

theorem fsub_self {v : Sample} (hv : isFinite n.format v = true) : fsub n v v = 0 := by
  rw [fsub_of_isFinite n hv hv, addNonNaN_zero n _ hv (isFinite_fneg hv) (by rw [sunits_fneg hv]; ring), fsign_fneg hv]
  simp

theorem fadd_zero_zero : fadd n 0 0 = 0 := by
  have hpos : 0 < n.format.infMag := by cases n.format <;> decide
  have h := fadd_packFloat n false hpos hpos
  rw [magUnits_zero, roundMag_zero, packFloat_zero] at h
  exact h

theorem fmul_zero_of_reciprocal {a : Sample} {d : Nat} (ha : isFinite n.format a = true)
    (hsign : fsign n.format a = false) (hd : d * units n.format a = n.format.unitsOne) : fmul n a 0 = 0 := by
  have hzero : isFinite n.format 0 = true ∧ units n.format 0 = 0 ∧ fsign n.format 0 = false := by
    cases n.format <;> decide
  obtain ⟨hfin, hunits, hsign0⟩ := hzero
  rw [fmul_reciprocal (m := 0) n ha hsign hd hfin (by rw [magUnits_zero, hunits, Nat.mul_zero]), hsign0, packFloat_zero,
    if_neg Bool.false_ne_true]

theorem fabs_zero (f : SampleFormat) : fabs f 0 = 0 := by cases f <;> decide

end Zero

/-- The sum over two blocks that hold one finite value. -/
theorem sad_eq_zero (n : Arith) {target reference : Plane} {mx my sx sy : Nat} {v : Sample}
    (hv : isFinite n.format v = true) (h : ∀ i < 16, ∀ j < 16,
      target.sample (mx + i) (my + j) = v ∧ reference.sample (sx + i) (sy + j) = v) :
    sad n target reference mx my sx sy = 0 := by
  rw [← sadOf_eq_sad]
  refine List.foldlRecOn (motive := (· = 0)) _ _ rfl fun acc hacc ij hij => ?_
  obtain ⟨hi, hj⟩ := mem_rasterPairs.1 hij
  obtain ⟨htarget, hreference⟩ := h ij.1 hi ij.2 hj
  rw [hacc, htarget, hreference, fsub_self n hv, fabs_zero, fadd_zero_zero]

theorem cost_eq_zero {s : State} {a b gx gy i j : Nat}
    (h : ∀ c < 3, sad s.arith (s.plane (b + c)) (s.plane (a + c)) (16 + 16 * gx) (16 + 16 * gy) (16 * gx + i)
      (16 * gy + j) = 0) : cost s a b gx gy i j = 0 := by
  obtain ⟨hfin4, hsign4, hval4⟩ := k0_25_value s.arith.format
  obtain ⟨hfin2, hsign2, hval2⟩ := k0_5_value s.arith.format
  have hhalf := fmul_zero_of_reciprocal s.arith hfin2 hsign2 hval2
  have hquarter := fmul_zero_of_reciprocal s.arith hfin4 hsign4 hval4
  rw [k0_5, pick_eq_lit] at hhalf
  rw [k0_25, pick_eq_lit] at hquarter
  simp only [cost, h 0 (by decide), h 1 (by decide), h 2 (by decide), half, quarter, hhalf, hquarter, fadd_zero_zero]

theorem mem_bothTriples (a b : Nat) {c : Nat} (hc : c < 3) : a + c ∈ bothTriples a b ∧ b + c ∈ bothTriples a b := by
  interval_cases c <;> simp

/-- A sample of a flat plane. -/
theorem sample_of_flat {p : Plane} {w h x y : Nat} {v : Sample} (hw : p.w = w) (hflat : ∀ k < w * h, p.nth k = v)
    (hx : x < w) (hy : y < h) : p.sample x y = v := by
  subst hw
  exact hflat _ (sampleIndex_lt hx hy)

/-- The block of every candidate lies inside the frame (spec/42_motion_estimator.md R101). -/
theorem candidate_in_frame {dim g i k : Nat} (hg : g < gridCount dim) (hi : i < 32) (hk : k < 16) :
    16 + 16 * g + k < dim ∧ 16 * g + i + k < dim := by
  unfold gridCount at hg; omega

/-- Settles O33: every cost is a zero, so no candidate replaces the first. -/
theorem mestOnFlatFramesGivesTheEarliest : Obligations.MestOnFlatFramesGivesTheEarliest := by
  intro s a b v hrun ha hb htie w h ks hvalid htag hsize hflat
  refine ⟨_, exec_mest_completed hrun ha hb hvalid htag hsize, forall_mem_mestBuffer_vec fun gx hx gy hy => ?_⟩
  have hcost {i j : Nat} (hi : i < 32) (hj : j < 32) : cost s a.val b.val gx gy i j = 0 := by
    refine cost_eq_zero fun c hc => ?_
    obtain ⟨hv, hconst⟩ := hflat c hc
    obtain ⟨hreference, htarget⟩ := mem_bothTriples a.val b.val hc
    refine sad_eq_zero s.arith hv fun i' hi' j' hj' => ?_
    obtain ⟨htx, hrx⟩ := candidate_in_frame hx hi hi'
    obtain ⟨hty, hry⟩ := candidate_in_frame hy hj hj'
    exact ⟨sample_of_flat (hsize _ htarget).1 (fun k hk => (hconst k hk).2) htx hty,
      sample_of_flat (hsize _ hreference).1 (fun k hk => (hconst k hk).1) hrx hry⟩
  have hfirst : chosenCandidate s a.val b.val gx gy = (0, 0) := by
    rw [chosenCandidate, htie]
    refine scanBest_first_of_const fun ij hij => ?_
    obtain ⟨hi, hj⟩ := mem_rasterPairs.1 (List.mem_of_mem_tail hij)
    exact (hcost hi hj).trans (hcost (by decide) (by decide)).symm
  rw [searchBlock_eq, hfirst]
  rfl

end Sys2Proof.Machine
end

section
/-! SUPPORT. The three operand checks of a stage, the frame of a command that draws nothing, and the searched macroblock that
holds a sample. -/

namespace Sys2Proof.Machine

open Sys2Proof Claims

/-- The outcomes of a legal command that checks states, tags and sizes in this order (spec/60_exceptions.md R159, R167). -/
theorem exec_of_operandChecks {i : Instr} {s : State} {states tags sizes : Bool} {Valid Tagged Sized : Prop}
    (hrun : s.fault = false) (hlegal : i.wellFormed = true)
    (hchecks : checksOf i s = [(states, .unwritten), (tags, .tag), (sizes, .shape)])
    (hstates : states = true ↔ Valid) (htags : tags = true ↔ Tagged) (hsizes : sizes = true ↔ Sized) :
    (¬Valid → faultsWith i s .unwritten) ∧ (Valid → ¬Tagged → faultsWith i s .tag) ∧
      (Valid → Tagged → ¬Sized → faultsWith i s .shape) ∧
      (Valid → Tagged → Sized → exec i s = .next (effectOf i s).countCommand) := by
  have hfault {code : FaultCode}
      (h : firstFailure [(states, .unwritten), (tags, .tag), (sizes, .shape)] = some code) : faultsWith i s code :=
    faultsWith_of_firstFailure hrun hlegal (hchecks ▸ h)
  refine ⟨fun hV => hfault (firstFailure_cons_fail (mt hstates.1 hV)), fun hV hT => hfault ?tag,
    fun hV hT hS => hfault ?shape, fun hV hT hS => exec_completed hrun hlegal ?none⟩
  case tag => rw [firstFailure_cons_pass (hstates.2 hV), firstFailure_cons_fail (mt htags.1 hT)]
  case shape =>
    rw [firstFailure_cons_pass (hstates.2 hV), firstFailure_cons_pass (htags.2 hT),
      firstFailure_cons_fail (mt hsizes.1 hS)]
  case none =>
    rw [hchecks, firstFailure_cons_pass (hstates.2 hV), firstFailure_cons_pass (htags.2 hT),
      firstFailure_cons_pass (hsizes.2 hS)]
    rfl

/-- `planeFrame` does not speak of the draw counter, so the frame is that of a command that draws. -/
theorem planeFrame_setPlane_noDraw (s : State) (i : Nat) (p : Plane) :
    planeFrame [i] s (s.setPlane i p).countCommand := planeFrame_setPlane s i p

theorem mem_tripleAt {d k : Nat} : k ∈ tripleAt d ↔ ∃ c < 3, k = d + c := by
  simp only [tripleAt, List.mem_cons, List.not_mem_nil, or_false]
  constructor
  · rintro (rfl | rfl | rfl)
    exacts [⟨0, by decide, rfl⟩, ⟨1, by decide, rfl⟩, ⟨2, by decide, rfl⟩]
  · rintro ⟨c, hc, rfl⟩
    omega

/-! ## The searched macroblock of a sample (spec/00_scope.md R18) -/

theorem gridOrigin_block {g i : Nat} (hi : i < 16) : 16 ≤ gridOrigin g + i ∧ (gridOrigin g + i - 16) / 16 = g := by
  unfold gridOrigin; omega

theorem macroblockAt_block {w h gx gy i j : Nat} (hx : gx < gridCount w) (hy : gy < gridCount h) (hi : i < 16)
    (hj : j < 16) : macroblockAt w h (gridOrigin gx + i) (gridOrigin gy + j) = some (gy * gridCount w + gx) := by
  obtain ⟨hx16, hgx⟩ := gridOrigin_block (g := gx) hi
  obtain ⟨hy16, hgy⟩ := gridOrigin_block (g := gy) hj
  simp only [macroblockAt, hgx, hgy]
  exact if_pos ⟨hx16, hy16, hx, hy⟩

theorem macroblockAt_border {w h x y : Nat}
    (hout : x < 16 ∨ y < 16 ∨ gridOrigin (gridCount w) ≤ x ∨ gridOrigin (gridCount h) ≤ y) :
    macroblockAt w h x y = none := by
  refine if_neg fun ⟨_, _, _, _⟩ => ?_
  unfold gridOrigin at hout
  omega

end Sys2Proof.Machine
end

section
/-! THEOREM. The delta builder `DELTA` (spec/43_delta_subsample.md R110, R111). -/

namespace Sys2Proof.Machine

open Sys2Proof Claims

/-! ## One sample -/

section Sample

variable {n : Arith} {mvb : MvBuffer} {reference target : Plane} {x y : Nat}

theorem deltaSample_of_some {k : Nat} {m : MotionVec} (hblock : macroblockAt target.w target.h x y = some k)
    (hm : mvb.vec[k]? = some m) : deltaSample n mvb reference target x y =
      fsub n (target.sample x y) (reference.sample (x + m.dx).toNat (y + m.dy).toNat) := by
  have hnth : mvb.nth k = m := by rw [MvBuffer.nth, List.getD_eq_getElem?_getD, hm]; rfl
  simp only [deltaSample, hblock, hnth]

theorem deltaSample_of_none (hblock : macroblockAt target.w target.h x y = none) :
    deltaSample n mvb reference target x y = target.sample x y := by
  simp only [deltaSample, hblock]

end Sample

/-! ## The command -/

theorem delta_wellFormed {d a b : PlaneReg} (hd : d.val ≤ 29) (ha : a.val ≤ 29) (hb : b.val ≤ 29) :
    (Instr.delta d a b).wellFormed = true := by
  simp only [Instr.wellFormed, PlaneReg.isTripleBase, Bool.and_eq_true, decide_eq_true_eq]
  exact ⟨⟨hd, ha⟩, hb⟩

section Checks

variable {s : State} {a b : Nat}

theorem triple_append_triple : s.triple a ++ s.triple b = (bothTriples a b).map s.plane := rfl

theorem deltaValid_iff : (allValid (s.triple a ++ s.triple b) && s.mvb.valid) = true ↔
    allValidAt s (bothTriples a b) ∧ s.mvb.valid = true := by
  rw [Bool.and_eq_true, triple_append_triple, allValid_map_iff]

theorem deltaTagged_iff : allTagged [.fullsize] (s.triple a ++ s.triple b) = true ↔
    allTaggedAt s [.fullsize] (bothTriples a b) := by
  rw [triple_append_triple, allTagged_map_iff]

theorem deltaSized_iff {w h : Nat} :
    (allSized w h (s.triple a ++ s.triple b) && s.mvb.w == w && s.mvb.h == h) = true ↔
      allSizedAt s w h (bothTriples a b) ∧ s.mvb.w = w ∧ s.mvb.h = h := by
  rw [Bool.and_eq_true, Bool.and_eq_true, beq_iff_eq, beq_iff_eq, and_assoc, triple_append_triple, allSized_map_iff]

end Checks

/-- The three planes are built from the state before the command, so an overlap of the triples does not matter. -/
theorem deltaEffect_plane (s : State) {d c : Nat} (a b : Nat) (hd : d + 2 < 32) (hc : c < 3) :
    (deltaEffect d a b s).countCommand.plane (d + c) = deltaPlane a b c s := by
  obtain ⟨h0, h1, h2⟩ := State.plane_setTriple_members s (deltaPlane a b 0 s) (deltaPlane a b 1 s) (deltaPlane a b 2 s) hd
  rw [State.countCommand_plane, deltaEffect, State.nextDraw_plane]
  interval_cases c
  exacts [h0, h1, h2]

theorem deltaEffect_planeFrame (s : State) {d : Nat} (a b : Nat) (hd : d + 2 < 32) :
    planeFrame (tripleAt d) s (deltaEffect d a b s).countCommand := by
  rw [deltaEffect]
  exact planeFrame_setTriple s _ _ _ hd

/-- Settles O34: the first failing check is the fault, else each destination is built by position from the state before, a
position lying either in the block its coordinates give or in none. -/
theorem deltaSubtractsTheDisplacedReference : Obligations.DeltaSubtractsTheDisplacedReference := by
  intro s d a b hrun hd ha hb w h ks sized
  obtain ⟨hunwritten, htag, hshape, hcompletes⟩ := exec_of_operandChecks hrun (delta_wellFormed hd ha hb) rfl
    deltaValid_iff deltaTagged_iff deltaSized_iff
  refine ⟨hunwritten, fun hvalid hmvb => htag ⟨hvalid, hmvb⟩, fun hvalid hmvb => hshape ⟨hvalid, hmvb⟩,
    fun hvalid hmvb htagged hsized => ?completes⟩
  have hd' : d.val + 2 < 32 := by omega
  have htarget {c : Nat} (hc : c < 3) : (s.plane (b.val + c)).w = w ∧ (s.plane (b.val + c)).h = h :=
    hsized.1 _ (mem_bothTriples a.val b.val hc).2
  refine ⟨_, hcompletes ⟨hvalid, hmvb⟩ htagged hsized, deltaEffect_planeFrame s a.val b.val hd', ?planes,
    fun c hc => ?samples⟩
  case planes =>
    intro k hk
    obtain ⟨c, hc, rfl⟩ := mem_tripleAt.1 hk
    obtain ⟨hw, hh⟩ := htarget hc
    rw [effectOf, deltaEffect_plane s a.val b.val hd' hc, ← hw, ← hh]
    exact Plane.build_isPlane _ _ _ _
  case samples =>
    obtain ⟨hw, hh⟩ := htarget hc
    have hsample {x y : Nat} (hx : x < w) (hy : y < h) :
        ((deltaEffect d.val a.val b.val s).countCommand.plane (d.val + c)).sample x y =
          deltaSample s.arith s.mvb (s.plane (a.val + c)) (s.plane (b.val + c)) x y := by
      rw [deltaEffect_plane s a.val b.val hd' hc]
      exact Plane.sample_build _ _ (hw ▸ hx) (hh ▸ hy)
    refine ⟨fun gx hgx gy hgy m hm i hi j hj => ?inside, fun x hx y hy hout => ?outside⟩
    case inside =>
      obtain ⟨hx, -⟩ := candidate_in_frame (i := 0) hgx (by decide) hi
      obtain ⟨hy, -⟩ := candidate_in_frame (i := 0) hgy (by decide) hj
      have hblock := macroblockAt_block hgx hgy hi hj
      exact (hsample hx hy).trans (deltaSample_of_some (hw.symm ▸ hh.symm ▸ hblock) hm)
    case outside =>
      have hblock := macroblockAt_border hout
      exact (hsample hx hy).trans (deltaSample_of_none (hw.symm ▸ hh.symm ▸ hblock))

end Sys2Proof.Machine
end

section
/-! THEOREM. The chroma subsampler `SUBS` (spec/43_delta_subsample.md R114). -/

namespace Sys2Proof.Machine

open Sys2Proof Claims

/-- The destination is built from the state before the command, so `d = a` is allowed. -/
theorem subsEffect_plane (s : State) (d a : PlaneReg) :
    (subsEffect d.val a.val s).countCommand.plane d.val = subsPlane s a.val := by
  rw [State.countCommand_plane, subsEffect, State.plane_setPlane_self _ _ d.isLt]

/-- Settles O35: the first failing check is the fault, else the destination is built by position from the even samples. -/
theorem subsTakesEvenSamples : Obligations.SubsTakesEvenSamples := by
  intro s d a hrun p
  obtain ⟨hunwritten, htag, hshape, hcompletes⟩ := exec_of_operandChecks (i := .subs d a) hrun rfl rfl
    allValid_singleton_iff (allTagged_singleton_iff.trans List.mem_singleton) multipleOf_eq_true
  refine ⟨hunwritten, htag, hshape, fun hvalid htagged hblocked => ?completes⟩
  refine ⟨_, hcompletes hvalid htagged hblocked, planeFrame_setPlane_noDraw s _ _, ?plane, fun x hx y hy => ?samples⟩
  all_goals rw [effectOf, subsEffect_plane]
  case plane => exact Plane.build_isPlane _ _ _ _
  case samples => exact Plane.sample_build _ _ hx hy

end Sys2Proof.Machine
end

section
/-! SUPPORT. A command that writes two planes, products with zero and with a value up to 1, and positions in 8x8 blocks. -/

namespace Sys2Proof.Machine

open Sys2Proof Claims

/-- The effect of a command that writes plane `i` and then plane `k`, and the count. -/
theorem planeFrame_setPlane_setPlane (s : State) (i k : Nat) (p q : Plane) :
    planeFrame [k, i] s ((s.setPlane i p).setPlane k q).nextDraw.countCommand := by
  obtain ⟨hhost, hsequence, hplanes, htokens, hmvb, hcount⟩ := planeFrame_setPlane (s.setPlane i p) k q
  refine ⟨hhost, hsequence, fun j hj hne => ?planes, htokens, hmvb, hcount⟩
  obtain ⟨hk, hi⟩ := not_or.1 (mt List.mem_cons.2 hne)
  exact (hplanes j hj (mt List.mem_singleton.1 hk)).trans (otherPlanesSame_setPlane s i p j hj hi)

/-! ## Products with zero -/

theorem packFloat_zero_value (f : SampleFormat) (neg : Bool) :
    isFinite f (packFloat f neg 0) = true ∧ fsign f (packFloat f neg 0) = neg ∧ units f (packFloat f neg 0) = 0 := by
  have hpos : 0 < f.infMag := by cases f <;> decide +kernel
  have hlt : 0 < f.signPlace := hpos.trans f.infMag_lt
  exact ⟨(isFinite_packFloat hlt).trans (decide_eq_true hpos), fsign_packFloat hlt,
    (units_packFloat hlt).trans (magUnits_zero f)⟩

theorem packFloat_false_zero (f : SampleFormat) : packFloat f false 0 = 0 := packFloat_zero f false

theorem posZero_value (f : SampleFormat) : isFinite f 0 = true ∧ fsign f 0 = false ∧ units f 0 = 0 :=
  packFloat_false_zero f ▸ packFloat_zero_value f false

section Products

variable (n : Arith)

/-- A zero of either sign times a finite value. -/
theorem fmul_packFloat_zero (neg : Bool) {c : Sample} (hc : isFinite n.format c = true) :
    fmul n (packFloat n.format neg 0) c = packFloat n.format (neg != fsign n.format c) 0 := by
  obtain ⟨hfin, hsign, hunits⟩ := packFloat_zero_value n.format neg
  rw [fmul_of_isFinite n hfin hc, hsign, hunits, Nat.zero_mul, roundMag_zero]

theorem fmul_zero_of_nonneg {a : Sample} (ha : isFinite n.format a = true) (hsign : fsign n.format a = false) :
    fmul n a 0 = 0 := by
  obtain ⟨hfin, hpos, hunits⟩ := posZero_value n.format
  rw [fmul_of_isFinite n ha hfin, hsign, hpos, hunits, Nat.mul_zero, roundMag_zero, bne_self_eq_false,
    packFloat_false_zero]

/-- `+0` and a zero of either sign. -/
theorem fadd_zero_packFloat_zero (neg : Bool) : fadd n 0 (packFloat n.format neg 0) = 0 := by
  obtain ⟨hfin, hsign, hunits⟩ := posZero_value n.format
  obtain ⟨hfin', -, hunits'⟩ := packFloat_zero_value n.format neg
  have hsum : sunits n.format 0 + sunits n.format (packFloat n.format neg 0) = 0 := by
    rw [(sunits_eq_zero_iff _ _).2 hunits, (sunits_eq_zero_iff _ _).2 hunits', add_zero]
  rw [fadd_of_isFinite n hfin hfin', addNonNaN_zero n _ hfin hfin' hsum, hsign, Bool.false_and,
    if_neg Bool.false_ne_true]

end Products

/-! ## Products with a value up to 1 -/

/-- A value from 0 to 1, its zero `+0`. -/
abbrev InUnitInterval (f : SampleFormat) (c : Sample) : Prop :=
  isFinite f c = true ∧ fsign f c = false ∧ units f c ≤ f.unitsOne

/-- A finite value does not round to infinity. -/
theorem units_lt_overflowBound {f : SampleFormat} {a : Sample} (ha : isFinite f a = true) :
    units f a < overflowBound f := by
  have hm : fmag f a < f.infMag := of_decide_eq_true ha
  have hround : min (roundMagUnbounded f (units f a) 1) f.infMag < f.infMag :=
    (roundMag_magUnits hm.le).trans_lt hm
  have hlt := (min_lt_iff.1 hround).resolve_right (lt_irrefl _)
  simpa using (roundMagUnbounded_lt_infMag_iff f _ one_pos).1 hlt

theorem isFinite_fmul_of_inUnitInterval (n : Arith) {a c : Sample} (ha : isFinite n.format a = true)
    (hc : InUnitInterval n.format c) : isFinite n.format (fmul n a c) = true := by
  obtain ⟨hfin, -, hle⟩ := hc
  have hone := n.format.unitsOne_pos
  have hbound : units n.format a * units n.format c < overflowBound n.format * n.format.unitsOne :=
    Nat.mul_lt_mul_of_lt_of_le (units_lt_overflowBound ha) hle hone
  rw [fmul_of_isFinite n ha hfin, isFinite_packFloat (roundMag_lt ..)]
  exact decide_eq_true ((min_le_left _ _).trans_lt ((roundMagUnbounded_lt_infMag_iff _ _ hone).2 hbound))

/-! ## Positions in 8x8 blocks -/

/-- A position inside a block whose number is below the count of whole blocks. -/
theorem blockPosition_lt {size b i : Nat} (hb : b < size / 8) (hi : i < 8) : 8 * b + i < size := by omega

theorem blockPosition_div_mod {i : Nat} (b : Nat) (hi : i < 8) : (8 * b + i) / 8 = b ∧ (8 * b + i) % 8 = i := by omega

/-- The whole block of a position lies inside a size that is a multiple of 8. -/
theorem blockOf_lt {size x i : Nat} (hsize : size % 8 = 0) (hx : x < size) (hi : i < 8) : 8 * (x / 8) + i < size := by
  omega

end Sys2Proof.Machine
end

section
/-! THEOREM. The transform `DCT` (spec/44_dct.md R118 to R121, R123). -/

namespace Sys2Proof.Machine

open Sys2Proof Claims

/-! ## The coefficient -/

theorem k128_eq_c128 (f : SampleFormat) : k128 f = c128 f := pick_eq_lit f _ _

theorem dctCoef_eq_coefficient (n : Arith) (p : Params) (blk : Nat → Nat → Sample) (u v : Nat) :
    dctCoef n p blk u v = coefficient n p blk u v := by
  simp only [dctCoef, blockRaster, List.foldl_flatMap, List.foldl_map, cosAt, cnAt, k0_25, pick_eq_lit, kPosZero,
    coefficient, quarter]

theorem blockRaster_eq_rasterPairs : blockRaster = rasterPairs 8 := rfl

/-! ## The planes -/

section Planes

variable (s : State)

theorem dctShifted_length (a : Nat) : (dctShifted s a).data.length = (s.plane a).w * (s.plane a).h := by
  simp [dctShifted]

theorem nth_dctShifted {a k : Nat} (hk : k < (s.plane a).w * (s.plane a).h) :
    (dctShifted s a).nth k = fsub s.arith ((s.plane a).nth k) (c128 s.arith.format) := by
  rw [← k128_eq_c128]
  exact Plane.nth_buildIdx (s.plane a).tag (fun k => fsub s.arith ((s.plane a).nth k) (k128 s.params.format)) hk

/-- The sample at column `u`, row `v` of block `(bi, bj)`. -/
theorem sample_dctPlane {a bi bj u v : Nat} (hbi : bi < (s.plane a).w / 8) (hbj : bj < (s.plane a).h / 8) (hu : u < 8)
    (hv : v < 8) : (dctPlane s a).sample (8 * bi + u) (8 * bj + v) = coefficient s.arith s.params
      (fun x y => fsub s.arith ((s.plane a).sample (8 * bi + x) (8 * bj + y)) (c128 s.arith.format)) u v := by
  obtain ⟨hblock, hu'⟩ := blockPosition_div_mod bi hu
  obtain ⟨hblock', hv'⟩ := blockPosition_div_mod bj hv
  rw [dctPlane, Plane.sample_build _ _ (blockPosition_lt hbi hu) (blockPosition_lt hbj hv), dctCoef_eq_coefficient,
    hblock, hblock', hu', hv', k128_eq_c128]
  rfl

/-- The destination is written last, so with `d = a` the plane ends with the coefficients (spec/44_dct.md R118). -/
theorem dctEffect_destination (d a : PlaneReg) :
    (dctEffect d.val a.val s).countCommand.plane d.val = dctPlane s a.val := by
  rw [State.countCommand_plane, dctEffect, State.nextDraw_plane, State.plane_setPlane_self _ _ d.isLt]

theorem dctEffect_source {d a : PlaneReg} (h : d ≠ a) :
    (dctEffect d.val a.val s).countCommand.plane a.val = dctShifted s a.val := by
  rw [State.countCommand_plane, dctEffect, State.nextDraw_plane, State.plane_setPlane_ne _ _ (Fin.val_ne_of_ne h),
    State.plane_setPlane_self _ _ a.isLt]

end Planes

/-! ## The command -/

/-- The outcomes of `DCT`, by its checks. -/
theorem exec_dct {s : State} (d a : PlaneReg) (hrun : s.fault = false) :
    let p := s.plane a.val
    let tagged := p.tag ∈ [Tag.fullsize, .downsample]
    (p.state ≠ .valid → faultsWith (.dct d a) s .unwritten) ∧
      (p.state = .valid → ¬tagged → faultsWith (.dct d a) s .tag) ∧
      (p.state = .valid → tagged → ¬blocked 8 p → faultsWith (.dct d a) s .shape) ∧
      (p.state = .valid → tagged → blocked 8 p →
        exec (.dct d a) s = .next (dctEffect d.val a.val s).countCommand) :=
  exec_of_operandChecks (i := .dct d a) hrun rfl rfl allValid_singleton_iff allTagged_singleton_iff multipleOf_eq_true

/-- Settles O36: the first failing check is the fault, else the source and then the destination are written, both built
from the state before. -/
theorem dctShiftsAndTransforms : Obligations.DctShiftsAndTransforms := by
  intro s d a hrun p n
  obtain ⟨hunwritten, htag, hshape, hcompletes⟩ := exec_dct d a hrun
  refine ⟨hunwritten, htag, hshape, fun hvalid htagged hblocked => ?completes⟩
  refine ⟨_, hcompletes hvalid htagged hblocked, planeFrame_setPlane_setPlane s _ _ _ _, ?plane, fun hne => ?source,
    fun bi hbi bj hbj u hu v hv => ?coefficients⟩
  case plane =>
    rw [dctEffect_destination]
    exact Plane.build_isPlane _ _ _ _
  case source =>
    rw [dctEffect_source s hne]
    exact ⟨rfl, dctShifted_length s _, fun k hk => nth_dctShifted s hk⟩
  case coefficients =>
    rw [dctEffect_destination]
    exact sample_dctPlane s hbi hbj hu hv

/-! ## Mid-grey (spec/44_dct.md R123) -/

theorem isFinite_c128 (f : SampleFormat) : isFinite f (c128 f) = true := by cases f <;> decide +kernel

/-- A table entry, in range or not, passes a test that every entry and `+0` passes. -/
theorem getD_of_all {q : Sample → Bool} {l : List Sample} (h : l.all q = true) (hzero : q kPosZero = true) (i : Nat) :
    q (l.getD i kPosZero) = true := by
  rw [List.getD_eq_getElem?_getD]
  cases hi : l[i]? with
  | none => exact hzero
  | some c => exact List.all_eq_true.1 h c (List.mem_of_getElem? hi)

theorem isFinite_cosAt {p : Params} {f : SampleFormat} (hcos : p.cos = defaultCos f) (i k : Nat) :
    isFinite f (cosAt p i k) = true := by
  have hentries : (defaultCos f).all (isFinite f) = true := by cases f <;> decide +kernel
  rw [cosAt, hcos]
  exact getD_of_all hentries (posZero_value f).1 _

theorem inUnitInterval_cnAt {p : Params} {f : SampleFormat} (hcn : p.cn = defaultCn f) (k : Nat) :
    InUnitInterval f (cnAt p k) := by
  have hentries : ((defaultCn f).all fun c => decide (InUnitInterval f c)) = true := by cases f <;> decide +kernel
  have hzero : decide (InUnitInterval f kPosZero) = true := by cases f <;> decide +kernel
  rw [cnAt, hcn]
  exact of_decide_eq_true (getD_of_all hentries hzero _)

section Zero

variable {n : Arith} {p : Params}

/-- The scale of a coefficient is finite and not negative. -/
theorem dctScale_value (hcn : p.cn = defaultCn n.format) (u v : Nat) :
    let scale := fmul n (fmul n (k0_25 n.format) (cnAt p u)) (cnAt p v)
    isFinite n.format scale = true ∧ fsign n.format scale = false := by
  have hu := inUnitInterval_cnAt hcn u
  have hv := inUnitInterval_cnAt hcn v
  obtain ⟨hfin, hsign, -⟩ := k0_25_value n.format
  have hfirst := isFinite_fmul_of_inUnitInterval n hfin hu
  obtain ⟨hufin, husign, -⟩ := hu
  refine ⟨isFinite_fmul_of_inUnitInterval n hfirst hv, ?_⟩
  obtain ⟨hvfin, hvsign, -⟩ := hv
  rw [fsign_fmul n hfirst hvfin, fsign_fmul n hfin hufin, hsign, husign, hvsign]
  rfl

/-- Each term of a block of `+0` is a zero, negative where one of the two cosines is, and adding it to `+0` keeps `+0`. -/
theorem dctCoef_eq_zero (hcos : p.cos = defaultCos n.format) (hcn : p.cn = defaultCn n.format)
    {blk : Nat → Nat → Sample} (hblk : ∀ i < 8, ∀ j < 8, blk i j = 0) (u v : Nat) : dctCoef n p blk u v = 0 := by
  obtain ⟨hfin, hsign⟩ := dctScale_value hcn u v
  have hsum : blockRaster.foldl (fun acc xy =>
      fadd n acc (fmul n (fmul n (blk xy.1 xy.2) (cosAt p xy.1 u)) (cosAt p xy.2 v))) kPosZero = 0 := by
    refine List.foldlRecOn (motive := (· = 0)) _ _ rfl fun acc hacc xy hxy => ?_
    obtain ⟨hx, hy⟩ := mem_rasterPairs.1 (blockRaster_eq_rasterPairs ▸ hxy)
    have hzero : blk xy.1 xy.2 = packFloat n.format false 0 :=
      (hblk _ hx _ hy).trans (packFloat_false_zero n.format).symm
    rw [hacc, hzero, fmul_packFloat_zero n _ (isFinite_cosAt hcos _ _),
      fmul_packFloat_zero n _ (isFinite_cosAt hcos _ _), fadd_zero_packFloat_zero]
  simp only [dctCoef, hsum]
  exact fmul_zero_of_nonneg n hfin hsign

end Zero

/-- Settles O37: every block of the level-shifted plane is `+0`, so every coefficient is. -/
theorem dctOfMidGreyIsAllPlusZero : Obligations.DctOfMidGreyIsAllPlusZero := by
  intro s d a hrun hcos hcn hvalid htagged hblocked hgrey
  obtain ⟨-, -, -, hcompletes⟩ := exec_dct d a hrun
  refine ⟨_, hcompletes hvalid htagged hblocked, fun k hk => ?_⟩
  obtain ⟨hw8, hh8⟩ := hblocked
  have hw : 0 < (s.plane a.val).w := Nat.pos_of_ne_zero fun h0 => by simp [h0] at hk
  rw [dctEffect_destination, dctPlane, Plane.build, Plane.nth_buildIdx _ _ hk]
  refine dctCoef_eq_zero hcos hcn (fun i hi j hj => ?_) _ _
  rw [sample_of_flat rfl hgrey (blockOf_lt hw8 (Nat.mod_lt k hw) hi)
    (blockOf_lt hh8 (Nat.div_lt_of_lt_mul hk) hj), k128_eq_c128]
  exact fsub_self s.arith (isFinite_c128 _)

end Sys2Proof.Machine
end

section
/-! SUPPORT. The value of a word in either format (spec/00_scope.md R9), the words that are legal as `QUALITY`
(spec/10_state.md R29), and the checks of a stage of 8x8 blocks. -/

namespace Sys2Proof.Machine

open Sys2Proof Claims

/-! ## A word has one value in both formats -/

/-- A finite magnitude stays finite and keeps its value. -/
theorem widenMag_value {m : Nat} (h : m < SampleFormat.binary32.infMag) :
    widenMag m < SampleFormat.binary64.infMag ∧
      magUnits .binary64 (widenMag m) = magUnits .binary32 m * unitRatio := by
  obtain ⟨m', hm', hval⟩ := exists_magUnits_binary64 h
  have hwide : widenMag m = m' := by rw [widenMag, if_pos h, ← hval, roundMag_magUnits hm'.le]
  exact ⟨hwide ▸ hm', hwide ▸ hval⟩

theorem widenMag_lt_infMag_iff {m : Nat} :
    widenMag m < SampleFormat.binary64.infMag ↔ m < SampleFormat.binary32.infMag := by
  refine ⟨fun h => ?_, fun h => (widenMag_value h).1⟩
  by_contra hinf
  rw [widenMag, if_neg hinf] at h
  omega

theorem fsign_ffrom (f : SampleFormat) (w : Word) : fsign f (ffrom f w) = fsign .binary32 (w.setWidth 64) := by
  cases f with
  | binary32 => rfl
  | binary64 => rw [ffrom, widen_eq_packFloat, fsign_packFloat (widenMag_lt (fmag_setWidth_lt w))]

theorem isFinite_ffrom (f : SampleFormat) (w : Word) : isFinite f (ffrom f w) = isFinite .binary32 (w.setWidth 64) := by
  cases f with
  | binary32 => rfl
  | binary64 =>
    rw [ffrom, widen_eq_packFloat, isFinite_packFloat (widenMag_lt (fmag_setWidth_lt w))]
    exact decide_eq_decide.2 widenMag_lt_infMag_iff

/-- The two counts of smallest subnormals are in the ratio of the counts that make 1. -/
theorem units_ffrom (f : SampleFormat) {w : Word} (h : isFinite .binary32 (w.setWidth 64) = true) :
    units f (ffrom f w) * SampleFormat.binary32.unitsOne = units .binary32 (w.setWidth 64) * f.unitsOne := by
  cases f with
  | binary32 => rfl
  | binary64 =>
    have hratio : unitRatio * SampleFormat.binary32.unitsOne = SampleFormat.binary64.unitsOne := by decide +kernel
    obtain ⟨-, hval⟩ := widenMag_value (of_decide_eq_true h)
    rw [ffrom, widen_eq_packFloat, units_packFloat (widenMag_lt (fmag_setWidth_lt w)), hval, Nat.mul_assoc, hratio,
      units_eq_magUnits]

/-! ## Values above zero -/

theorem sunits_pos_iff {f : SampleFormat} {a : Sample} : 0 < sunits f a ↔ fsign f a = false ∧ 0 < units f a := by
  unfold sunits
  cases fsign f a <;> simp

theorem sunits_ffrom_pos_iff (f : SampleFormat) {w : Word} (h : isFinite .binary32 (w.setWidth 64) = true) :
    0 < sunits f (ffrom f w) ↔ 0 < sunits .binary32 (w.setWidth 64) := by
  have hpos : 0 < units f (ffrom f w) ↔ 0 < units .binary32 (w.setWidth 64) := by
    rw [← Nat.mul_pos_iff_of_pos_right SampleFormat.binary32.unitsOne_pos, units_ffrom f h,
      Nat.mul_pos_iff_of_pos_right f.unitsOne_pos]
  rw [sunits_pos_iff, sunits_pos_iff, fsign_ffrom, hpos]

/-! ## Legal qualities -/

/-- The legal patterns are those of the finite binary32 values above zero. -/
theorem qualityLegal_iff_binary32 (w : Word) :
    qualityLegal w ↔ isFinite .binary32 (w.setWidth 64) = true ∧ 0 < sunits .binary32 (w.setWidth 64) := by
  have hzero : sunits .binary32 0 = 0 := by decide +kernel
  have horder := orderKey_lt_iff .binary32 0 (w.setWidth 64)
  have hkey : orderKey .binary32 0 = 0 := by decide +kernel
  rw [hzero, hkey] at horder
  rw [← horder]
  have hw := w.isLt
  simp only [isFinite, orderKey, fsign, fmag, BitVec.toNat_setWidth, SampleFormat.signPlace, SampleFormat.infMag,
    decide_eq_true_eq]
  split_ifs <;> omega

/-- `Q` is a finite value above zero exactly for the legal patterns, whatever the format. -/
theorem qualityLegal_iff (f : SampleFormat) (w : Word) :
    qualityLegal w ↔ isFinite f (ffrom f w) = true ∧ 0 < sunits f (ffrom f w) := by
  rw [qualityLegal_iff_binary32, isFinite_ffrom]
  exact and_congr_right fun h => (sunits_ffrom_pos_iff f h).symm

theorem legalQuality_eq_true_iff (s : State) : legalQuality s = true ↔ qualityLegal s.quality := by
  obtain ⟨hzero, -, hunits⟩ := posZero_value s.params.format
  rw [qualityLegal_iff s.params.format, legalQuality, Bool.and_eq_true]
  refine and_congr_right fun hfin => ?_
  have hkey := orderKey_lt_iff s.params.format 0 s.q
  rw [(sunits_eq_zero_iff _ _).2 hunits] at hkey
  rw [flt_iff, ← State.q, ← hkey]
  exact ⟨fun ⟨_, _, hlt⟩ => hlt, fun hlt => ⟨isNaN_of_isFinite hzero, isNaN_of_isFinite hfin, hlt⟩⟩

/-! ## The checks of a stage of 8x8 blocks -/

/-- The first failing check of `DCT`, `QUANT`, `DCPRED` and `ZIGZAG` on their source. -/
theorem firstFailure_blockedChecks (p : Plane) :
    let tagged := p.tag ∈ [Tag.fullsize, .downsample]
    (p.state ≠ .valid → firstFailure (blockedChecks p) = some .unwritten) ∧
      (p.state = .valid → ¬tagged → firstFailure (blockedChecks p) = some .tag) ∧
      (p.state = .valid → tagged → ¬blocked 8 p → firstFailure (blockedChecks p) = some .shape) ∧
      (p.state = .valid → tagged → blocked 8 p → firstFailure (blockedChecks p) = none) := by
  unfold blockedChecks spatialTags
  refine ⟨fun hstate => firstFailure_cons_fail (mt allValid_singleton_iff.1 hstate), fun hstate htag => ?tag,
    fun hstate htag hsize => ?shape, fun hstate htag hsize => ?none⟩
  all_goals rw [firstFailure_cons_pass (allValid_singleton_iff.2 hstate)]
  case tag => exact firstFailure_cons_fail (mt allTagged_singleton_iff.1 htag)
  all_goals rw [firstFailure_cons_pass (allTagged_singleton_iff.2 htag)]
  case shape => exact firstFailure_cons_fail (mt multipleOf_eq_true.1 hsize)
  case none => exact firstFailure_cons_pass (multipleOf_eq_true.2 hsize)

end Sys2Proof.Machine
end

section
/-! THEOREM. The quantizer `QUANT` (spec/45_quantizer.md R125 to R128). -/

namespace Sys2Proof.Machine

open Sys2Proof Claims

/-! ## The command -/

/-- `QUANT` checks `QUALITY` and then its source. -/
theorem firstFailure_quant {s : State} (d a : PlaneReg) (h : qualityLegal s.quality) :
    firstFailure (checksOf (.quant d a) s) = firstFailure (blockedChecks (s.plane a.val)) :=
  firstFailure_cons_pass ((legalQuality_eq_true_iff s).2 h)

/-- The destination is built from the state before the command, so `d = a` is allowed. -/
theorem quantEffect_plane (s : State) (d a : PlaneReg) :
    (quantEffect d.val a.val s).countCommand.plane d.val = quantPlane s a.val := by
  rw [State.countCommand_plane, quantEffect, State.nextDraw_plane, State.plane_setPlane_self _ _ d.isLt]

/-- Settles O38: an illegal `QUALITY` comes before the checks of the source; when all pass, the destination is built by
position from the samples of the source. -/
theorem quantDividesByTheEffectiveStep : Obligations.QuantDividesByTheEffectiveStep := by
  intro s d a hrun p n
  obtain ⟨hunwritten, htag, hshape, hnone⟩ := firstFailure_blockedChecks p
  have hfault {code : FaultCode} (hQ : qualityLegal s.quality) (h : firstFailure (blockedChecks p) = some code) :
      faultsWith (.quant d a) s code :=
    faultsWith_of_firstFailure hrun rfl ((firstFailure_quant d a hQ).trans h)
  refine ⟨fun hQ => ?config, fun hQ hstate => hfault hQ (hunwritten hstate),
    fun hQ hvalid hnot => hfault hQ (htag hvalid hnot),
    fun hQ hvalid htagged hnot => hfault hQ (hshape hvalid htagged hnot),
    fun hQ hvalid htagged hblocked => ?completes⟩
  case config =>
    exact faultsWith_of_firstFailure hrun rfl (firstFailure_cons_fail (mt (legalQuality_eq_true_iff s).1 hQ))
  refine ⟨_, exec_completed hrun rfl ((firstFailure_quant d a hQ).trans (hnone hvalid htagged hblocked)),
    planeFrame_setPlane s _ _, ?plane, fun x hx y hy => ?samples⟩
  all_goals rw [effectOf, quantEffect_plane]
  case plane => exact Plane.build_isPlane _ _ _ _
  case samples => exact Plane.sample_build _ _ hx hy

/-! ## The effective step (spec/45_quantizer.md R127) -/

/-- A base step is finite and at least 1. -/
theorem qmatAt_value {f : SampleFormat} {p : Params} (hqmat : p.qmat = defaultQmat f) {r c : Nat} (hr : r < 8)
    (hc : c < 8) :
    isFinite f (qmatAt p r c) = true ∧ fsign f (qmatAt p r c) = false ∧ f.unitsOne ≤ units f (qmatAt p r c) := by
  have hentries : ((defaultQmat f).all fun b =>
      isFinite f b && !fsign f b && decide (f.unitsOne ≤ units f b)) = true := by cases f <;> decide +kernel
  have hindex : 8 * r + c < (defaultQmat f).length := by
    rw [defaultQmat, List.length_map, show defaultQmatSteps.length = 64 from rfl]; omega
  have hentry := List.all_eq_true.1 hentries _ (List.getElem_mem hindex)
  rw [qmatAt, hqmat, List.getD_eq_getElem _ _ hindex]
  simpa [and_assoc] using hentry

/-- The largest legal `Q` is below `2^128`, and `2^128` units are below 1: a value of at least 1 divided by `Q` is at
least one unit (spec/45_quantizer.md R127: the quotient cannot underflow). -/
theorem units_le_of_qualityLegal {f : SampleFormat} {w : Word} (h : qualityLegal w) :
    units f (ffrom f w) ≤ f.unitsOne * f.unitsOne := by
  obtain ⟨hfin, -⟩ := (qualityLegal_iff_binary32 w).1 h
  have hbound : overflowBound .binary32 ≤ f.unitsOne * SampleFormat.binary32.unitsOne := by
    cases f <;> decide +kernel
  refine Nat.le_of_mul_le_mul_right ?_ SampleFormat.binary32.unitsOne_pos
  calc units f (ffrom f w) * SampleFormat.binary32.unitsOne
      = units .binary32 (w.setWidth 64) * f.unitsOne := units_ffrom f hfin
    _ ≤ f.unitsOne * SampleFormat.binary32.unitsOne * f.unitsOne :=
      Nat.mul_le_mul_right _ ((units_lt_overflowBound hfin).le.trans hbound)
    _ = f.unitsOne * f.unitsOne * SampleFormat.binary32.unitsOne := by ring

/-- What is at least one unit does not underflow to zero. -/
theorem roundMag_pos {f : SampleFormat} {num den : Nat} (hden : 0 < den) (h : den ≤ num) :
    0 < roundMag f num den := by
  have hunit : magUnits f 1 = 1 := by cases f <;> rfl
  obtain ⟨hnear, -⟩ := roundMagUnbounded_nearest f num hden 1
  have hne : roundMagUnbounded f num den ≠ 0 := fun hzero => by
    rw [hzero, magDist, magDist, magUnits_zero, hunit] at hnear
    omega
  have hinf : 0 < f.infMag := by cases f <;> decide
  rw [roundMag_eq_min]
  omega

/-- The quotient of a base step by a legal `Q` is a value above zero, infinity included. -/
theorem fdiv_quality_pos (n : Arith) {b : Sample} {w : Word} (hfin : isFinite n.format b = true)
    (hsign : fsign n.format b = false) (hone : n.format.unitsOne ≤ units n.format b) (h : qualityLegal w) :
    isNaN n.format (fdiv n b (ffrom n.format w)) = false ∧ 0 < sunits n.format (fdiv n b (ffrom n.format w)) := by
  obtain ⟨hQfin, hQpos⟩ := (qualityLegal_iff n.format w).1 h
  obtain ⟨hQsign, hQunits⟩ := sunits_pos_iff.1 hQpos
  have hle : units n.format (ffrom n.format w) ≤ units n.format b * n.format.unitsOne :=
    (units_le_of_qualityLegal h).trans (Nat.mul_le_mul_right _ hone)
  have hmag := roundMag_pos (f := n.format) hQunits hle
  have hlt := roundMag_lt n.format (units n.format b * n.format.unitsOne) (units n.format (ffrom n.format w))
  rw [fdiv_of_isFinite n hfin hQfin, if_neg hQunits.ne', hsign, hQsign, bne_self_eq_false, isNaN_packFloat hlt,
    sunits_pos_iff, fsign_packFloat hlt, units_packFloat hlt]
  refine ⟨decide_eq_false (not_lt.2 (roundMag_le ..)), rfl, ?_⟩
  calc 0 = magUnits n.format 0 := (magUnits_zero _).symm
    _ < _ := magUnits_strictMono n.format hmag

/-- `K("1")` of the statement. -/
theorem sunits_lit_one (f : SampleFormat) : sunits f (lit f 0x3F800000 0x3FF0000000000000) = f.unitsOne := by
  cases f <;> decide +kernel

/-- The ceiling of a value above zero is not below 1: a finite one is a positive multiple of 1, and infinity stays. -/
theorem unitsOne_le_fceil (n : Arith) {a : Sample} (hnan : isNaN n.format a = false) (hpos : 0 < sunits n.format a) :
    isNaN n.format (fceil n a) = false ∧ (n.format.unitsOne : Int) ≤ sunits n.format (fceil n a) := by
  have hone : (0 : Int) < n.format.unitsOne := Int.natCast_pos.2 n.format.unitsOne_pos
  obtain ⟨hceil, hinf⟩ := ceilIsLeastIntegralNotBelow n a
  obtain hfin | hfin := Bool.eq_false_or_eq_true (isFinite n.format a)
  · obtain ⟨hcfin, -, m, hm, hle, -⟩ := hceil hfin
    have hmpos : 0 < m := pos_of_mul_pos_left (hpos.trans_le hle) hone.le
    exact ⟨isNaN_of_isFinite hcfin, hm ▸ le_mul_of_one_le_left hone.le hmpos⟩
  · have hisInf : isInf n.format a = true := by
      simp only [isFinite, isNaN, isInf, decide_eq_false_iff_not, beq_iff_eq] at *; omega
    obtain ⟨hsign, -⟩ := sunits_pos_iff.1 hpos
    rw [hinf hisInf]
    refine ⟨hnan, ?_⟩
    have htop : n.format.unitsOne ≤ magUnits n.format n.format.infMag := by
      cases n.format <;> decide +kernel
    rw [sunits, hsign, if_neg Bool.false_ne_true, units_eq_magUnits, beq_iff_eq.1 hisInf]
    exact Int.ofNat_le.2 htop

/-- Settles O39: a base step of at least 1 by a legal `Q` is above zero, and its ceiling is not below 1. -/
theorem quantStepIsAtLeastOne : Obligations.QuantStepIsAtLeastOne := by
  intro n p q r c hqmat hq hr hc
  obtain ⟨hfin, hsign, hone⟩ := qmatAt_value hqmat hr hc
  obtain ⟨hnan, hpos⟩ := fdiv_quality_pos n hfin hsign hone hq
  obtain ⟨hstepNaN, hstep⟩ := unitsOne_le_fceil n hnan hpos
  refine ⟨hstepNaN, Bool.eq_false_iff.2 fun hbelow => ?_⟩
  obtain ⟨-, -, hkey⟩ := flt_iff.1 hbelow
  rw [orderKey_lt_iff, sunits_lit_one] at hkey
  exact hstep.not_gt hkey

end Sys2Proof.Machine
end

section
/-! THEOREM. The DC predictor `DCPRED` (spec/46_dc_predictor.md R130, R131). -/

namespace Sys2Proof.Machine

open Sys2Proof Claims

/-! ## The traversal -/

section Traversal

variable {src : Plane} {bj : Nat}

/-- The block at column `bi`, row `bj` has traversal number `bi * nby + bj`. -/
theorem dcOf_block (bi : Nat) (hbj : bj < src.h / 8) :
    dcOf src (bi * (src.h / 8) + bj) = src.sample (8 * bi) (8 * bj) := by
  rw [dcOf, sampleIndex_div bi hbj, sampleIndex_mod bi hbj]

variable (n : Arith)

/-- The first block's DC is kept. -/
theorem dcDiff_first : dcDiff n src 0 = src.sample 0 0 := by
  rw [dcDiff, if_pos rfl, dcOf, Nat.zero_div, Nat.zero_mod, Nat.mul_zero]

/-- Before a block that is not at the top of its column comes the block above it. -/
theorem dcDiff_below (bi : Nat) (hbj : bj + 1 < src.h / 8) : dcDiff n src (bi * (src.h / 8) + (bj + 1)) =
    fsub n (src.sample (8 * bi) (8 * (bj + 1))) (src.sample (8 * bi) (8 * bj)) := by
  rw [dcDiff, if_neg (by omega), dcOf_block bi hbj, ← Nat.add_assoc, Nat.add_sub_cancel,
    dcOf_block bi (Nat.lt_of_succ_lt hbj)]

/-- Before the top block of a later column comes the bottom block of the column to its left. -/
theorem dcDiff_top (bi : Nat) (hnby : 0 < src.h / 8) : dcDiff n src ((bi + 1) * (src.h / 8)) =
    fsub n (src.sample (8 * (bi + 1)) 0) (src.sample (8 * bi) (8 * (src.h / 8 - 1))) := by
  have hpred : (bi + 1) * (src.h / 8) - 1 = bi * (src.h / 8) + (src.h / 8 - 1) := by
    rw [Nat.succ_mul, Nat.add_sub_assoc hnby]
  rw [dcDiff, if_neg (Nat.mul_pos bi.succ_pos hnby).ne', hpred, dcOf_block bi (Nat.sub_one_lt_of_lt hnby)]
  exact congrArg (fsub n · _) (dcOf_block (bi + 1) hnby)

/-- The value of the block at column `bi`, row `bj`. -/
theorem dcDiff_block (bi : Nat) (hbj : bj < src.h / 8) : dcDiff n src (bi * (src.h / 8) + bj) =
    if bj = 0 then
      if bi = 0 then src.sample 0 0
      else fsub n (src.sample (8 * bi) 0) (src.sample (8 * (bi - 1)) (8 * (src.h / 8 - 1)))
    else fsub n (src.sample (8 * bi) (8 * bj)) (src.sample (8 * bi) (8 * (bj - 1))) := by
  cases bj with
  | succ bj => exact dcDiff_below n bi hbj
  | zero =>
    cases bi with
    | succ bi => exact dcDiff_top n bi hbj
    | zero => exact (congrArg (dcDiff n src) (Nat.zero_mul _)).trans (dcDiff_first n)

end Traversal

/-! ## The layout -/

/-- Where `DCD_LAYOUT` stores the difference of the block at column `bi`, row `bj`. -/
def dcdIndex (layout : DcdLayout) (nbx nby bi bj : Nat) : Nat :=
  match layout with
  | .traversal => bi * nby + bj
  | .spatial => bj * nbx + bi

theorem dcdIndex_lt (layout : DcdLayout) {nbx nby bi bj : Nat} (hbi : bi < nbx) (hbj : bj < nby) :
    dcdIndex layout nbx nby bi bj < nbx * nby := by
  cases layout with
  | traversal => exact Nat.mul_comm nby nbx ▸ sampleIndex_lt hbj hbi
  | spatial => exact sampleIndex_lt hbi hbj

/-- `dcdBlock` recovers the traversal number of the block that is stored at an index. -/
theorem dcdBlock_dcdIndex (layout : DcdLayout) {src : Plane} {bi : Nat} (bj : Nat) (hbi : bi < src.w / 8) :
    dcdBlock layout src (dcdIndex layout (src.w / 8) (src.h / 8) bi bj) = bi * (src.h / 8) + bj := by
  cases layout with
  | traversal => rfl
  | spatial => rw [dcdIndex, dcdBlock, sampleIndex_mod bj hbi, sampleIndex_div bj hbi]

/-! ## The command -/

theorem nth_dcpredPlane (s : State) {a bi bj : Nat} (hbi : bi < (s.plane a).w / 8) (hbj : bj < (s.plane a).h / 8) :
    (dcpredPlane s a).nth (dcdIndex s.params.dcdLayout ((s.plane a).w / 8) ((s.plane a).h / 8) bi bj) =
      dcDiff s.arith (s.plane a) (bi * ((s.plane a).h / 8) + bj) := by
  rw [dcpredPlane, Plane.nth_buildIdx _ _ (dcdIndex_lt _ hbi hbj), dcdBlock_dcdIndex _ _ hbi]

/-- The destination is built from the state before the command, so `d = a` is allowed. -/
theorem dcpredEffect_plane (s : State) (d a : PlaneReg) :
    (dcpredEffect d.val a.val s).countCommand.plane d.val = dcpredPlane s a.val := by
  rw [State.countCommand_plane, dcpredEffect, State.nextDraw_plane, State.plane_setPlane_self _ _ d.isLt]

/-- Settles O40: the first failing check is the fault, else the destination is built by index, and the index of a block
gives its traversal number, whose predecessor is the block above or the bottom of the column to the left. -/
theorem dcpredDifferencesColumnMajor : Obligations.DcpredDifferencesColumnMajor := by
  intro s d a hrun p nbx nby dc
  obtain ⟨hunwritten, htag, hshape, hcompletes⟩ := exec_of_operandChecks (i := .dcpred d a) hrun rfl rfl
    allValid_singleton_iff allTagged_singleton_iff multipleOf_eq_true
  refine ⟨hunwritten, htag, hshape, fun hvalid htagged hblocked => ?completes⟩
  refine ⟨_, hcompletes hvalid htagged hblocked, planeFrame_setPlane s _ _, ?plane, fun bi hbi bj hbj => ?samples⟩
  all_goals rw [effectOf, dcpredEffect_plane]
  case plane => exact Plane.buildIdx_isPlane _ _ _ _
  case samples => exact (nth_dcpredPlane s hbi hbj).trans (dcDiff_block s.arith bi hbj)

end Sys2Proof.Machine
end

section
/-! THEOREM. Every step ends, both resets, and what a halted engine keeps (spec/60_exceptions.md R161, R162,
spec/70_reset_and_hazards.md R176, R178, R187). -/

namespace Sys2Proof.Machine

open Sys2Proof Claims

/-! ## Every step ends -/

/-- Settles O8: the queue of accesses is what a step reads first. -/
theorem idleEngineStaysAsItIs : Obligations.IdleEngineStaysAsItIs := fun s hidle => by rw [step, hidle]

theorem exec_next (i : Instr) (s : State) : ∃ t, exec i s = .next t :=
  exec_eq_runCommand i s ▸ runCommand_next i _ _ s

theorem writeCmd_next (c : Word) (s : State) : ∃ t, writeCmd c s = .next t := by
  unfold writeCmd
  split
  · exact ⟨_, rfl⟩
  · split
    · exact exec_next _ s
    · exact ⟨_, rfl⟩

theorem writeReg_next (r : Reg) (v : Word) (s : State) : ∃ t, writeReg r v s = .next t := by
  cases r
  case cmd => exact writeCmd_next v s
  all_goals exact ⟨_, rfl⟩

theorem writeWindow_next (off : Nat) (v : Word) (s : State) : ∃ t, writeWindow off v s = .next t := by
  unfold writeWindow
  split
  · exact writeReg_next _ v s
  · exact ⟨_, rfl⟩

theorem hostEvent_next (e : HostEvent) (s : State) : ∃ t, hostEvent e s = .next t := by
  cases e with
  | read off size => simp only [hostEvent]; split <;> exact ⟨_, rfl⟩
  | write off size v =>
    simp only [hostEvent]
    split
    · exact writeWindow_next off v _
    · exact ⟨_, rfl⟩
  | hardReset => exact ⟨_, rfl⟩

/-- Settles O49: a command ends in a next state, so every event does. -/
theorem everyStepAnswersANextState : Obligations.EveryStepAnswersANextState := by
  intro s
  unfold step
  split
  · exact ⟨s, rfl⟩
  · exact hostEvent_next _ _

/-! ## Resets -/

theorem toNat_mod_two (v : Word) : v.toNat % 2 = (v.getLsbD 0).toNat := by
  rw [BitVec.getLsbD, Nat.testBit_zero]
  obtain h | h := Nat.mod_two_eq_zero_or_one v.toNat <;> simp [h]

theorem writeCtrl_of_clear {v : Word} (s : State) (h : v.getLsbD 0 = false) : writeCtrl v s = s :=
  if_neg (by rw [toNat_mod_two, h]; decide)

theorem writeCtrl_of_set {v : Word} (s : State) (h : v.getLsbD 0 = true) : writeCtrl v s = s.engineReset :=
  if_pos (by rw [toNat_mod_two, h]; rfl)

/-- Settles O2: the signal is an event of its own, and a `CTRL` write resets by its bit 0. -/
theorem bothResetsLeaveTheResetState : Obligations.BothResetsLeaveTheResetState := by
  intro s rest v
  refine ⟨fun hhost => ?signal, fun hhost hset => ?set, fun hhost hclear => ?clear⟩
  case signal => rw [step, hhost]; rfl
  case set => exact (step_write hhost rfl).trans (congrArg _ (writeCtrl_of_set (afterAccess s rest .done) hset))
  case clear => exact (step_write hhost rfl).trans (congrArg _ (writeCtrl_of_clear (afterAccess s rest .done) hclear))

/-! ## A halted engine -/

theorem exec_halted {s : State} (i : Instr) (h : s.fault = true) : exec i s = .next s :=
  (exec_eq_runCommand i s).trans (runCommand_halted h)

theorem writeCmd_halted {s : State} (c : Word) (h : s.fault = true) : writeCmd c s = .next s := if_pos h

/-- Settles O20: the commands, the write of `CMD` and the write of `PDATA` all look at `FAULT` first. -/
theorem haltedEngineIgnoresCommandsAndLoads : Obligations.HaltedEngineIgnoresCommandsAndLoads := by
  intro s hfault
  refine ⟨fun i => exec_halted i hfault, fun rest v hhost => ?_⟩
  obtain hcmd | hpdata := hhost
  · exact (step_write hcmd rfl).trans (writeCmd_halted (s := afterAccess s rest .done) v hfault)
  · exact (step_write_pdata hpdata).trans
      (congrArg _ (writePdata_of_fault (s := afterAccess s rest .done) v hfault))

/-- The fault, the sequence registers, the stores and the command count are unchanged. -/
def resultsSame (s t : State) : Prop :=
  sequenceSame s t ∧ t.planes = s.planes ∧ t.tokens = s.tokens ∧ t.mvb = s.mvb ∧ t.cmdCount = s.cmdCount

theorem resultsSame_refl (s : State) : resultsSame s s := ⟨⟨rfl, rfl, rfl, rfl, rfl, rfl⟩, rfl, rfl, rfl, rfl⟩

theorem resultsSame_trans {s t u : State} (h : resultsSame s t) (h' : resultsSame t u) : resultsSame s u := by
  unfold resultsSame sequenceSame at *
  simp only [h', h, and_self]

/-- Taking an access from the queue and answering it touches no result. -/
theorem resultsSame_popHost_answer (s : State) (rest : List HostEvent) (r : BusReply) :
    resultsSame s ((s.popHost rest).answer r) := resultsSame_refl s

/-- A read moves at most a pointer or the draw counter. -/
theorem readReg_resultsSame (r : Reg) (s : State) : resultsSame s (readReg r s).2 := by
  by_cases hport : r ∈ dataPorts
  · fin_cases hport
    · simp only [readReg, readPdata]; split <;> exact resultsSame_refl s
    · simp only [readReg, readMvdata]; split <;> exact resultsSame_refl s
    · simp only [readReg, readTkdata]; split <;> exact resultsSame_refl s
  · rw [readReg_state hport]
    exact resultsSame_refl s

theorem readWindow_resultsSame (off : Nat) (s : State) : resultsSame s (readWindow off s).2 := by
  unfold readWindow
  split
  · exact readReg_resultsSame _ s
  · exact resultsSame_refl s

/-- On a halted engine a write that is no reset changes at most a register of the host's. -/
theorem writeReg_resultsSame {r : Reg} {v : Word} {s t : State} (hfault : s.fault = true)
    (hctrl : r = .ctrl → v.getLsbD 0 = false) (h : writeReg r v s = .next t) : resultsSame s t := by
  cases r
  case cmd => cases (writeCmd_halted v hfault).symm.trans h; exact resultsSame_refl _
  case ctrl =>
    have hsame := writeCtrl_of_clear s (hctrl rfl)
    cases (congrArg Host.Outcome.next hsame).symm.trans h
    exact resultsSame_refl _
  case pdata =>
    have hsame := writePdata_of_fault v hfault
    cases (congrArg Host.Outcome.next hsame).symm.trans h
    exact resultsSame_refl _
  all_goals
    cases h
    exact resultsSame_refl s

theorem offset_of_ctrl {off : Nat} (h : regAt off = some .ctrl) : off = 0x08 := by
  unfold regAt at h
  split at h <;> cases h
  rfl

theorem size_of_legalAccess {off size : Nat} (h : legalAccess off size = true) : size = 4 := by
  simp only [legalAccess, Bool.and_eq_true, beq_iff_eq] at h
  obtain ⟨⟨hsize, -⟩, -⟩ := h
  exact hsize

theorem writeWindow_resultsSame {off : Nat} {v : Word} {s t : State} (hfault : s.fault = true)
    (hctrl : off = 0x08 → v.getLsbD 0 = false) (h : writeWindow off v s = .next t) : resultsSame s t := by
  unfold writeWindow at h
  split at h
  · next r hreg => exact writeReg_resultsSame hfault (fun hr => hctrl (offset_of_ctrl (hr ▸ hreg))) h
  · cases h; exact resultsSame_refl s

/-- Settles O23: a read moves a pointer, a command or a load does nothing, and any other write goes to a register of the
host's. -/
theorem faultStaysUntilReset : Obligations.FaultStaysUntilReset := by
  intro s t hfault hstep hsignal hctrl
  unfold step at hstep
  split at hstep
  · cases hstep; exact resultsSame_refl s
  next e rest hhost =>
    have hanswered (r : BusReply) := resultsSame_popHost_answer s rest r
    cases e with
    | hardReset => exact absurd hhost (hsignal rest)
    | read off size =>
      simp only [hostEvent] at hstep
      split at hstep <;> cases hstep
      · exact readWindow_resultsSame off (s.popHost rest)
      · exact hanswered .busError
    | write off size v =>
      simp only [hostEvent] at hstep
      split at hstep
      next hlegal =>
        refine resultsSame_trans (hanswered .done) (writeWindow_resultsSame hfault (fun hoff => ?_) hstep)
        exact hctrl v rest (by rw [hhost, hoff, size_of_legalAccess hlegal])
      next => cases hstep; exact hanswered .busError

end Sys2Proof.Machine
end

section
/-! THEOREM. What every command keeps of the fault registers and the count, and the commands `NOP`, `COPY`, `PDEF` and
`ENDSEQ` (spec/49_frame_control.md R144 to R146, R152, spec/60_exceptions.md R158, R160). -/

namespace Sys2Proof.Machine

open Sys2Proof Claims

/-! ## The fault registers and the count -/

/-- The fault registers and the command count are unchanged. -/
def faultAndCountSame (s t : State) : Prop :=
  t.fault = s.fault ∧ t.err = s.err ∧ t.fcmd = s.fcmd ∧ t.cmdCount = s.cmdCount

theorem faultAndCountSame_trans {s t u : State} (h : faultAndCountSame s t) (h' : faultAndCountSame t u) :
    faultAndCountSame s u := by
  unfold faultAndCountSame at *
  simp only [h', h, and_self]

/-- A command other than `FRAME` writes stores, or with `ENDSEQ` sequence registers. -/
theorem stageEffect_faultAndCountSame {i : Instr} (hi : i ≠ .frame) (s : State) : faultAndCountSame s (effectOf i s) := by
  cases i <;> simp only [effectOf]
  case frame => exact absurd rfl hi
  all_goals
    simp [faultAndCountSame, cscEffect, lpfEffect, mestEffect, deltaEffect, subsEffect, dctEffect, quantEffect,
      dcpredEffect, zigzagEffect, tokensEffect, copyEffect, pdefEffect, endseqEffect]

/-- The effects of commands, one after another, less the counts. -/
def effectsOf (is : List Instr) (s : State) : State := is.foldl (fun s i => effectOf i s) s

theorem effectsOf_cons (i : Instr) (is : List Instr) (s : State) :
    effectsOf (i :: is) s = effectsOf is (effectOf i s) := rfl

theorem effectsOf_faultAndCountSame {is : List Instr} (his : Instr.frame ∉ is) (s : State) :
    faultAndCountSame s (effectsOf is s) := by
  induction is generalizing s with
  | nil => exact ⟨rfl, rfl, rfl, rfl⟩
  | cons i is ih =>
    have hi := (List.ne_of_not_mem_cons his).symm
    exact faultAndCountSame_trans (stageEffect_faultAndCountSame hi s) (ih (List.not_mem_of_not_mem_cons his) _)

/-- `FRAME` is its expansion after step 0, and then the sequence registers (spec/49_frame_control.md R149). -/
theorem frameEffect_eq_effectsOf (s : State) : frameEffect s =
    frameFinish s.isPFrame { effectsOf (expansion s.isPFrame) (frameInvalidate s) with havePrev := true } := by
  unfold frameEffect
  cases s.isPFrame <;> rfl

theorem frame_not_mem_expansion (ptype : Bool) : Instr.frame ∉ expansion ptype := by cases ptype <;> decide

theorem frameInvalidate_faultAndCountSame (s : State) : faultAndCountSame s (frameInvalidate s) := by
  simp [faultAndCountSame, frameInvalidate]

theorem frameFinish_faultAndCountSame (ptype : Bool) (s : State) :
    faultAndCountSame s (frameFinish ptype { s with havePrev := true }) := ⟨rfl, rfl, rfl, rfl⟩

theorem frameEffect_faultAndCountSame (s : State) : faultAndCountSame s (frameEffect s) := by
  rw [frameEffect_eq_effectsOf]
  have hstages := effectsOf_faultAndCountSame (frame_not_mem_expansion s.isPFrame) (frameInvalidate s)
  exact faultAndCountSame_trans (frameInvalidate_faultAndCountSame s)
    (faultAndCountSame_trans hstages (frameFinish_faultAndCountSame _ _))

theorem effectOf_faultAndCountSame (i : Instr) (s : State) : faultAndCountSame s (effectOf i s) := by
  by_cases hi : i = .frame
  · subst hi; exact frameEffect_faultAndCountSame s
  · exact stageEffect_faultAndCountSame hi s

/-- The codes that a command can raise: not `LOAD`, which only a `PDATA` write raises, and none that is reserved. -/
theorem checksOf_code_mem (i : Instr) (s : State) : ∀ c ∈ legalWord i :: checksOf i s,
    c.2 ∈ [FaultCode.illegal, .unwritten, .tag, .shape, .config, .resource] := by
  cases i <;>
    simp [legalWord, checksOf, cscChecks, lpfChecks, mestChecks, deltaChecks, subsChecks, blockedChecks, quantChecks,
      tokensChecks, copyChecks, pdefChecks, frameChecks]

/-- Settles O21: a running engine either raises the code of a failed check or runs the effect and counts. -/
theorem commandFaultsPreciselyOrCompletes : Obligations.CommandFaultsPreciselyOrCompletes := by
  intro i s hrun
  obtain ⟨t, hexec⟩ := exec_next i s
  obtain ⟨hfault, -⟩ | ⟨-, code, hmem, rfl⟩ | ⟨-, -, rfl⟩ := exec_cases hexec
  · exact absurd hfault (by simp [hrun])
  · exact .inl ⟨code, checksOf_code_mem i s _ hmem, hexec⟩
  · obtain ⟨hfault, herr, hfcmd, hcount⟩ := effectOf_faultAndCountSame i s
    exact .inr ⟨_, hexec, hfault.trans hrun, herr, hfcmd, congrArg (· + 1) hcount⟩

/-! ## `NOP` -/

/-- Settles O24: `NOP` has no check and no effect. -/
theorem nopCountsOnly : Obligations.NopCountsOnly := fun _ =>
  ⟨fun hrun => exec_completed (i := .nop) hrun rfl rfl, fun hfault => exec_halted .nop hfault⟩

/-! ## `COPY` -/

theorem State.setPlane_plane_self (s : State) (k : Nat) : (s.setPlane k (s.plane k)).planes = s.planes := by
  ext j hj
  by_cases hk : k = j
  · subst hk; simp [State.setPlane, State.plane, hj]
  · simp [State.setPlane, hk]

theorem copyEffect_plane (s : State) {d : Nat} (a : Nat) (hd : d < 32) :
    (copyEffect d a s).plane d =
      { s.plane a with state := .valid, fill := (s.plane a).w * (s.plane a).h } :=
  State.plane_setPlane_self s _ hd

/-- A full `VALID` plane is copied as it is. -/
theorem copyEffect_of_full {s : State} {d a : Nat} (hvalid : (s.plane a).state = .valid)
    (hfull : (s.plane a).fill = (s.plane a).w * (s.plane a).h) : copyEffect d a s = s.setPlane d (s.plane a) := by
  simp only [copyEffect, ← hvalid, ← hfull]

/-- Settles O25: the one check is of the source's state, and the copy of a full source is the source. -/
theorem copyMakesAnEqualPlane : Obligations.CopyMakesAnEqualPlane := by
  intro s d a hrun
  refine ⟨fun hstate => ?unwritten, fun hvalid => ?completes⟩
  case unwritten =>
    exact faultsWith_of_firstFailure hrun rfl (firstFailure_cons_fail (mt allValid_singleton_iff.1 hstate))
  case completes =>
    have hpass := firstFailure_cons_pass (l := []) (code := .unwritten) (allValid_singleton_iff.2 hvalid)
    refine ⟨_, exec_completed (i := .copy d a) hrun rfl hpass, planeFrame_setPlane_noDraw s _ _, ?plane,
      fun hda hfull => ?same⟩
    case plane =>
      simp only [State.countCommand_plane, effectOf, copyEffect_plane s a.val d.isLt, hvalid]
    case same =>
      subst hda
      rw [State.countCommand_planes, effectOf, copyEffect_of_full hvalid hfull, State.setPlane_plane_self]

/-! ## `PDEF` -/

theorem pdefConfig_iff {s : State} : (s.width != 0 && s.height != 0) = true ↔ s.width ≠ 0 ∧ s.height ≠ 0 := by
  rw [Bool.and_eq_true, bne_iff_ne, bne_iff_ne]

/-- Settles O26: the sizes, then the capacity, then the plane starts to load. -/
theorem pdefStartsALoad : Obligations.PdefStartsALoad := by
  intro s d tag hrun
  have hsized (hw : s.width ≠ 0) (hh : s.height ≠ 0) : firstFailure (checksOf (.pdef d tag) s) =
      firstFailure [(decide (s.width.toNat * s.height.toNat ≤ s.params.planeCap), .resource)] :=
    firstFailure_cons_pass (pdefConfig_iff.2 ⟨hw, hh⟩)
  refine ⟨fun hzero => ?config, fun hw hh hcap => ?resource, fun hw hh hcap => ?completes⟩
  case config =>
    exact faultsWith_of_firstFailure hrun rfl
      (firstFailure_cons_fail fun hpass => hzero.elim (pdefConfig_iff.1 hpass).1 (pdefConfig_iff.1 hpass).2)
  case resource =>
    exact faultsWith_of_firstFailure hrun rfl
      ((hsized hw hh).trans (firstFailure_cons_fail (by simpa using hcap)))
  case completes =>
    have hpass := (hsized hw hh).trans (firstFailure_cons_pass (decide_eq_true hcap))
    refine ⟨_, exec_completed hrun rfl hpass, planeFrame_setPlane_noDraw s _ _, ?_⟩
    rw [State.countCommand_plane, effectOf, pdefEffect, State.plane_setPlane_self s _ d.isLt]
    exact ⟨rfl, rfl, rfl, rfl, rfl⟩

/-! ## `ENDSEQ` -/

theorem endseqEffect_plane (s : State) (k : Nat) :
    (endseqEffect s).plane k = if 6 ≤ k ∧ k < 9 then Plane.empty else s.plane k := by
  have hfreed := State.plane_emptyPlanes s (i := 6) (n := 3) k (by decide)
  simpa [endseqEffect, State.plane] using hfreed

/-- Settles O27: `ENDSEQ` has no check, and its effect is a list of register writes. -/
theorem endseqFreesThePreviousFrame : Obligations.EndseqFreesThePreviousFrame := by
  intro s hrun
  obtain ⟨hfault, herr, hfcmd, hcount⟩ := effectOf_faultAndCountSame .endseq s
  refine ⟨_, exec_completed hrun rfl rfl, effectOf_hostSideSame .endseq s, fun k _ hk => ?planes, fun k _ _ => ?tokens,
    ?empty6, ?empty7, ?empty8, ?prev, ?mvb, ?index, congrArg (· + 1) hcount, ?ftype, hfault.trans hrun, herr, hfcmd⟩
  case tokens | prev | mvb | index | ftype => simp [effectOf, endseqEffect, State.token]
  all_goals rw [State.countCommand_plane, effectOf, endseqEffect_plane]
  case planes =>
    simp only [List.mem_cons, List.not_mem_nil, or_false, not_or] at hk
    exact if_neg (by omega)
  all_goals rfl

end Sys2Proof.Machine
end

section
/-! THEOREM. The zig-zag scanner `ZIGZAG` (spec/47_zigzag.md R134, R135). -/

namespace Sys2Proof.Machine

open Sys2Proof Claims

/-- Sample `k` of the block at column `bi`, row `bj`, whose raster number is `bj * nbx + bi`. -/
theorem zigzagSample_block (p : Params) {src : Plane} {bi : Nat} (bj k : Nat) (hbi : bi < src.w / 8) :
    zigzagSample p src k (bj * (src.w / 8) + bi) =
      src.sample (8 * bi + p.zz.getD k 0 % 8) (8 * bj + p.zz.getD k 0 / 8) := by
  simp only [zigzagSample, zzAt, sampleIndex_mod bj hbi, sampleIndex_div bj hbi]

/-- Row `n` of the plane of sequences is the sequence of block number `n`. -/
theorem nth_zigzagPlane (s : State) {a bi bj k : Nat} (hbi : bi < (s.plane a).w / 8) (hbj : bj < (s.plane a).h / 8)
    (hk : k < 64) : (zigzagPlane s a).nth (64 * (bj * ((s.plane a).w / 8) + bi) + k) =
      (s.plane a).sample (8 * bi + s.params.zz.getD k 0 % 8) (8 * bj + s.params.zz.getD k 0 / 8) := by
  rw [Nat.mul_comm 64, ← zigzagSample_block s.params bj k hbi]
  exact Plane.sample_build .zigzag (zigzagSample s.params (s.plane a)) hk (sampleIndex_lt hbi hbj)

/-- The destination is built from the state before the command, so `d = a` is allowed. -/
theorem zigzagEffect_plane (s : State) (d a : PlaneReg) :
    (zigzagEffect d.val a.val s).countCommand.plane d.val = zigzagPlane s a.val := by
  rw [State.countCommand_plane, zigzagEffect, State.plane_setPlane_self _ _ d.isLt]

/-- The outcomes of `ZIGZAG`, by its checks. -/
theorem exec_zigzag {s : State} (d a : PlaneReg) (hrun : s.fault = false) :
    let p := s.plane a.val
    let tagged := p.tag ∈ [Tag.fullsize, .downsample]
    (p.state ≠ .valid → faultsWith (.zigzag d a) s .unwritten) ∧
      (p.state = .valid → ¬tagged → faultsWith (.zigzag d a) s .tag) ∧
      (p.state = .valid → tagged → ¬blocked 8 p → faultsWith (.zigzag d a) s .shape) ∧
      (p.state = .valid → tagged → blocked 8 p →
        exec (.zigzag d a) s = .next (zigzagEffect d.val a.val s).countCommand) :=
  exec_of_operandChecks (i := .zigzag d a) hrun rfl rfl allValid_singleton_iff allTagged_singleton_iff
    multipleOf_eq_true

/-- Settles O41: the first failing check is the fault, else the destination is built by position, a row being the number of
a block. -/
theorem zigzagPermutesEachBlock : Obligations.ZigzagPermutesEachBlock := by
  intro s d a hrun p nbx nby
  obtain ⟨hunwritten, htag, hshape, hcompletes⟩ := exec_zigzag d a hrun
  refine ⟨hunwritten, htag, hshape, fun hvalid htagged hblocked => ?completes⟩
  refine ⟨_, hcompletes hvalid htagged hblocked, planeFrame_setPlane_noDraw s _ _, ?plane,
    fun bi hbi bj hbj k hk => ?samples⟩
  all_goals rw [zigzagEffect_plane]
  case plane => exact Plane.build_isPlane _ _ _ _
  case samples => exact nth_zigzagPlane s hbi hbj hk

/-- Reading a table at every index gives the table. -/
theorem map_getD_range {α : Type} {l : List Nat} {n : Nat} (g : Nat → α) (hlen : l.length = n) :
    (List.range n).map (fun k => g (l.getD k 0)) = l.map g := by
  refine List.ext_getElem (by simp [hlen]) fun k hk _ => ?_
  have hkl : k < l.length := by simpa [hlen] using hk
  simp [List.getElem?_eq_getElem hkl]

/-- Settles O42: with `ZZ` a permutation of 0 to 63 the row holds the samples of the block in the order of `ZZ`. -/
theorem zigzagLosesNoCoefficient : Obligations.ZigzagLosesNoCoefficient := by
  intro s d a hrun hparams hvalid htagged hblocked
  obtain ⟨-, -, -, hcompletes⟩ := exec_zigzag d a hrun
  refine ⟨_, hcompletes hvalid htagged hblocked, fun bi hbi bj hbj => ?_⟩
  obtain ⟨-, hperm, -⟩ := hparams
  have hlen : s.params.zz.length = 64 := hperm.length_eq.trans List.length_range
  rw [zigzagEffect_plane,
    List.map_congr_left fun k hk => nth_zigzagPlane s hbi hbj (List.mem_range.1 hk),
    map_getD_range (fun z => (s.plane a.val).sample (8 * bi + z % 8) (8 * bj + z / 8)) hlen]
  exact hperm.map _

end Sys2Proof.Machine
end

section
/-! THEOREM. The token encoder `TOKENS` (spec/48_token_encoder.md R138 to R142). -/

namespace Sys2Proof.Machine

open Sys2Proof Claims

/-! ## The loop of `encode_block` (spec/48_token_encoder.md R139) -/

theorem fbits_zero (f : SampleFormat) : fbits f 0 = 0 := by cases f <;> decide +kernel

/-- One position of the statement's loop: the words so far and the zeros pending. -/
def loopStep (f : SampleFormat) (st : List Word × Nat) (v : Sample) : List Word × Nat :=
  if feq f v 0 then (st.1, st.2 + 1)
  else ((if 1 ≤ st.2 then st.1 ++ [BitVec.ofNat 32 (0x40000000 + st.2), 0] else st.1) ++ [0, fbits f v], 0)

/-- What the statement's loop leaves, with the zeros pending at its end. -/
def loopWords (st : List Word × Nat) : List Word :=
  st.1 ++ (if 1 < st.2 then [BitVec.ofNat 32 (0x40000000 + st.2), 0] else if st.2 = 1 then [0, 0] else [])

theorem blockTokens_eq_loopWords (f : SampleFormat) (seq : Nat → Sample) : blockTokens f seq =
    loopWords (((List.range 63).map fun k => seq (k + 1)).foldl (loopStep f) ([], 0)) := by
  rw [List.foldl_map]
  rfl

theorem runToken_of_lt {n : Nat} (h : n < 64) : runToken n = [BitVec.ofNat 32 (0x40000000 + n), 0] := by
  rw [runToken, Nat.mod_eq_of_lt h]

theorem trailingRun_of_lt (f : SampleFormat) {run : Nat} (h : run < 64) : trailingRun f run =
    if 1 < run then [BitVec.ofNat 32 (0x40000000 + run), 0] else if run = 1 then [0, 0] else [] := by
  rw [trailingRun, runToken_of_lt h, litToken, kPosZero, fbits_zero]

/-- The recursion of the model is the loop of the statement: no run reaches 64, so its length fits the header. -/
theorem loopWords_foldl (f : SampleFormat) (l : List Sample) (out : List Word) (run : Nat) (h : run + l.length < 64) :
    loopWords (l.foldl (loopStep f) (out, run)) = out ++ encodeAc f run l := by
  induction l generalizing out run with
  | nil => rw [List.foldl_nil, loopWords, encodeAc, trailingRun_of_lt f (run := run) h]
  | cons v rest ih =>
    rw [List.length_cons] at h
    rw [List.foldl_cons, encodeAc, loopStep, kPosZero]
    split
    · exact ih _ _ (by omega)
    · rw [ih _ _ (by omega), runToken_of_lt (by omega)]
      split <;> simp [litToken]

theorem encodeBlock_eq_blockTokens (f : SampleFormat) (src : Plane) (n : Nat) :
    encodeBlock f src n = blockTokens f fun k => src.sample k n := by
  rw [blockTokens_eq_loopWords, loopWords_foldl _ _ _ _ (by simp)]
  rfl

theorem tokenWords_eq (f : SampleFormat) (src : Plane) : tokenWords f src =
    (List.range src.h).flatMap fun n => blockTokens f (fun k => src.sample k n) ++ [0x80000000, 0] := by
  simp only [tokenWords, encodeBlock_eq_blockTokens]
  rfl

/-! ## The command -/

/-- The outcomes of `TOKENS`, by its checks. -/
theorem exec_tokens {s : State} (r : TokenReg) (a : PlaneReg) (hrun : s.fault = false) :
    let p := s.plane a.val
    (p.state ≠ .valid → faultsWith (.tokens r a) s .unwritten) ∧
      (p.state = .valid → p.tag ≠ .zigzag → faultsWith (.tokens r a) s .tag) ∧
      (p.state = .valid → p.tag = .zigzag → p.w ≠ 64 → faultsWith (.tokens r a) s .shape) ∧
      (p.state = .valid → p.tag = .zigzag → p.w = 64 →
        exec (.tokens r a) s = .next (tokensEffect r.val a.val s).countCommand) :=
  exec_of_operandChecks (i := .tokens r a) hrun rfl rfl allValid_singleton_iff
    (allTagged_singleton_iff.trans List.mem_singleton) beq_iff_eq

theorem tokensEffect_token (s : State) (r : TokenReg) (a : PlaneReg) :
    (tokensEffect r.val a.val s).countCommand.token r.val = tokensBuffer s a.val := by
  rw [State.countCommand_token, tokensEffect, State.token_setToken_self _ _ r.isLt]

theorem otherTokensSame_setToken (s : State) (t : Nat) (b : TokenBuf) : otherTokensSame [t] s (s.setToken t b) :=
  fun _ _ hk => State.token_setToken_ne s b fun htk => hk (List.mem_singleton.2 htk.symm)

/-- Settles O43: the first failing check is the fault, else the token register holds the words of the loop. -/
theorem tokensEncodesEachRow : Obligations.TokensEncodesEachRow := by
  intro s r a hrun p
  obtain ⟨hunwritten, htag, hshape, hcompletes⟩ := exec_tokens r a hrun
  refine ⟨hunwritten, htag, hshape, fun hvalid htagged hwidth => ?completes⟩
  refine ⟨_, hcompletes hvalid htagged hwidth, effectOf_hostSideSame (.tokens r a) s,
    ⟨rfl, rfl, rfl, rfl, rfl, rfl⟩, rfl, rfl, otherTokensSame_setToken s _ _, rfl, ?register⟩
  rw [tokensEffect_token]
  exact ⟨rfl, rfl, tokenWords_eq _ _⟩

/-! ## The length of a stream (spec/48_token_encoder.md R141) -/

/-- Every token is two words. -/
theorem two_dvd_length_encodeAc (f : SampleFormat) (run : Nat) (l : List Sample) : 2 ∣ (encodeAc f run l).length := by
  induction l generalizing run with
  | nil => rw [encodeAc, trailingRun]; split_ifs <;> simp
  | cons v rest ih =>
    rw [encodeAc]
    split
    · exact ih _
    · rw [List.length_append, List.length_append, length_litToken]
      refine Nat.dvd_add (Nat.dvd_add ?_ (Nat.dvd_refl 2)) (ih 0)
      split_ifs <;> simp

/-- A position not yet encoded, or a zero pending, takes a token. -/
theorem two_le_length_encodeAc (f : SampleFormat) {run : Nat} {l : List Sample} (h : 1 ≤ run + l.length) :
    2 ≤ (encodeAc f run l).length := by
  induction l generalizing run with
  | nil =>
    rw [List.length_nil] at h
    rw [encodeAc, trailingRun]
    split_ifs
    · simp
    · simp
    · omega
  | cons v rest ih =>
    rw [encodeAc]
    split
    · exact ih (by omega)
    · rw [List.length_append, List.length_append, length_litToken]
      omega

theorem four_mul_le_length_tokenWords (f : SampleFormat) (src : Plane) : 4 * src.h ≤ (tokenWords f src).length := by
  have hrow (n : Nat) : 4 ≤ (encodeBlock f src n ++ eobToken).length := by
    have hac := two_le_length_encodeAc f (run := 0) (l := (List.range 63).map fun k => src.sample (k + 1) n) (by simp)
    rw [List.length_append, length_eobToken, encodeBlock]
    omega
  rw [tokenWords, List.length_flatMap]
  have hsum := List.card_nsmul_le_sum ((List.range src.h).map fun n => (encodeBlock f src n ++ eobToken).length) 4
    (by simpa using fun n _ => hrow n)
  simpa [Nat.mul_comm] using hsum

theorem two_dvd_length_tokenWords (f : SampleFormat) (src : Plane) : 2 ∣ (tokenWords f src).length := by
  rw [tokenWords, List.length_flatMap]
  refine List.dvd_sum (List.forall_mem_map.2 fun n _ => ?_)
  rw [List.length_append, length_eobToken]
  exact Nat.dvd_add (two_dvd_length_encodeAc ..) (Nat.dvd_refl 2)

/-- Settles O44: a row has 63 positions, so it takes at least one token and at most 63, and then `EOB`. -/
theorem tokenStreamLengthIsBounded : Obligations.TokenStreamLengthIsBounded := by
  intro s t r a hrun hvalid htagged hwidth hexec
  obtain ⟨-, -, -, hcompletes⟩ := exec_tokens r a hrun
  cases (hcompletes hvalid htagged hwidth).symm.trans hexec
  rw [tokensEffect_token]
  exact ⟨four_mul_le_length_tokenWords _ _, length_tokenWords_le _ _,
    Nat.mod_eq_zero_of_dvd (two_dvd_length_tokenWords _ _)⟩

/-! ## Blocks without a coefficient and without a zero (spec/48_token_encoder.md R142) -/

theorem encodeAc_of_all_zero {f : SampleFormat} {l : List Sample} (h : ∀ v ∈ l, feq f v 0 = true) (run : Nat) :
    encodeAc f run l = trailingRun f (run + l.length) := by
  induction l generalizing run with
  | nil => rfl
  | cons v rest ih =>
    obtain ⟨hv, hrest⟩ := List.forall_mem_cons.1 h
    rw [encodeAc, kPosZero, if_pos hv, ih hrest, List.length_cons, Nat.add_assoc, Nat.add_comm 1]

theorem encodeAc_of_no_zero {f : SampleFormat} {l : List Sample} (h : ∀ v ∈ l, feq f v 0 = false) :
    encodeAc f 0 l = l.flatMap (litToken f) := by
  induction l with
  | nil => rfl
  | cons v rest ih =>
    obtain ⟨hv, hrest⟩ := List.forall_mem_cons.1 h
    rw [encodeAc, kPosZero, hv, if_neg Bool.false_ne_true, if_neg (by decide), ih hrest]
    rfl

/-- What holds of positions 1 to 63 of a row holds of every sample that `encode_block` reads. -/
theorem forall_mem_positions {src : Plane} {n : Nat} {q : Sample → Prop}
    (h : ∀ k, 1 ≤ k → k < 64 → q (src.sample k n)) :
    ∀ v ∈ (List.range 63).map (fun k => src.sample (k + 1) n), q v := by
  refine List.forall_mem_map.2 fun k hk => h (k + 1) (by omega) ?_
  have := List.mem_range.1 hk
  omega

/-- Settles O45: zeros only add to the run, and a coefficient after no zero is its literal. -/
theorem tokensOfZeroAndOfFullBlocks : Obligations.TokensOfZeroAndOfFullBlocks := by
  intro f p n
  constructor
  · intro hzero
    rw [encodeBlock, encodeAc_of_all_zero (forall_mem_positions hzero), List.length_map, List.length_range]
    rfl
  · intro hfull
    rw [encodeBlock, encodeAc_of_no_zero (forall_mem_positions hfull), List.flatMap_map]
    rfl

end Sys2Proof.Machine
end

section
/-! SUPPORT. Runs of commands that take no fault: what they do, and what they leave. -/

namespace Sys2Proof.Machine

open Sys2Proof Claims

/-! ## No command but `FRAME` looks at the command count -/

/-- The state with another command count. -/
def State.withCount (s : State) (c : Word) : State := { s with cmdCount := c }

theorem countCommand_eq_withCount (s : State) : s.countCommand = s.withCount (s.cmdCount + 1) := rfl

theorem withCount_withCount (s : State) (c c' : Word) : (s.withCount c).withCount c' = s.withCount c' := rfl

theorem cscEffect_withCount (d a : Nat) (s : State) (c : Word) :
    cscEffect d a (s.withCount c) = (cscEffect d a s).withCount c := by
  have harith : (s.withCount c).arith = s.arith := rfl
  have hplane (f : Sample → Sample → Sample → Sample) : cscPlane f (s.withCount c) a = cscPlane f s a := rfl
  have htriple (p q r : Plane) : (s.withCount c).setTriple d p q r = (s.setTriple d p q r).withCount c := rfl
  have hdraw (t : State) : (t.withCount c).nextDraw = t.nextDraw.withCount c := rfl
  rw [cscEffect, hplane, hplane, hplane, harith, htriple, hdraw, cscEffect]

theorem effectOf_withCount {i : Instr} (hi : i ≠ .frame) (s : State) (c : Word) :
    effectOf i (s.withCount c) = (effectOf i s).withCount c := by
  cases i
  case frame => exact absurd rfl hi
  case csc d a => exact cscEffect_withCount d a s c
  all_goals rfl

theorem effectsOf_withCount {is : List Instr} (his : Instr.frame ∉ is) (s : State) (c : Word) :
    effectsOf is (s.withCount c) = (effectsOf is s).withCount c := by
  induction is generalizing s with
  | nil => rfl
  | cons i is ih =>
    rw [effectsOf_cons, effectsOf_cons, effectOf_withCount (List.ne_of_not_mem_cons his).symm,
      ih (List.not_mem_of_not_mem_cons his)]

/-! ## Runs -/

theorem runAll_cons_of_exec {i : Instr} {is : List Instr} {s t : State} (hexec : exec i s = .next t)
    (hrun : t.fault = false) : runAll (i :: is) s = runAll is t := by
  simp [runAll, hexec, hrun]

/-- A run on a running engine goes on after the effect of its first command, which is counted. -/
theorem runAll_cons_eq_some {i : Instr} {is : List Instr} {s u : State} (hrun : s.fault = false)
    (h : runAll (i :: is) s = some u) :
    (effectOf i s).countCommand.fault = false ∧ runAll is (effectOf i s).countCommand = some u := by
  obtain ⟨t, hexec⟩ := exec_next i s
  simp only [runAll, hexec] at h
  split at h
  · cases h
  next hfault =>
    obtain ⟨hhalted, -⟩ | ⟨-, code, -, rfl⟩ | ⟨-, -, rfl⟩ := exec_cases hexec
    · simp [hrun] at hhalted
    · exact absurd rfl hfault
    · exact ⟨Bool.eq_false_iff.2 hfault, h⟩

theorem runAll_append {is js : List Instr} {s t : State} (h : runAll is s = some t) :
    runAll (is ++ js) s = runAll js t := by
  induction is generalizing s with
  | nil => cases h; rfl
  | cons i is ih =>
    obtain ⟨r, hexec⟩ := exec_next i s
    simp only [runAll, List.cons_append, hexec] at h ⊢
    split at h
    · cases h
    next hfault => rw [if_neg hfault, ih h]

/-- A run does the effects of its commands; they are counted on top. -/
theorem runAll_eq_effectsOf {is : List Instr} {s u : State} (his : Instr.frame ∉ is) (hrun : s.fault = false)
    (h : runAll is s = some u) : u = (effectsOf is s).withCount u.cmdCount := by
  induction is generalizing s with
  | nil => cases h; rfl
  | cons i is ih =>
    obtain ⟨hrun', hrest⟩ := runAll_cons_eq_some hrun h
    rw [ih (List.not_mem_of_not_mem_cons his) hrun' hrest, countCommand_eq_withCount,
      effectsOf_withCount (List.not_mem_of_not_mem_cons his)]
    rfl

/-! ## What the effects of commands leave -/

/-- A relation that the effect of each command keeps. -/
theorem effectsOf_induction {R : State → State → Prop} {is : List Instr} (hrefl : ∀ s, R s s)
    (htrans : ∀ {s t u}, R s t → R t u → R s u) (heffect : ∀ i ∈ is, ∀ s, R s (effectOf i s)) (s : State) :
    R s (effectsOf is s) := by
  induction is generalizing s with
  | nil => exact hrefl s
  | cons i is ih =>
    obtain ⟨hi, his⟩ := List.forall_mem_cons.1 heffect
    exact htrans (hi s) (ih his _)

theorem effectsOf_hostSideSame (is : List Instr) (s : State) : hostSideSame s (effectsOf is s) :=
  effectsOf_induction hostSideSame_refl hostSideSame_trans (fun i _ => effectOf_hostSideSame i) s

theorem effectsOf_append (is js : List Instr) (s : State) : effectsOf (is ++ js) s = effectsOf js (effectsOf is s) :=
  List.foldl_append

/-- The plane registers that a command writes; `DCT` also writes its source (spec/44_dct.md R118). -/
def planesWritten : Instr → List Nat
  | .csc d _ | .delta d _ _ => tripleAt d
  | .lpf d _ | .subs d _ | .quant d _ | .dcpred d _ | .zigzag d _ | .copy d _ | .pdef d _ => [d.val]
  | .dct d a => [d.val, a.val]
  | .frame => List.range 26
  | .endseq => tripleAt 6
  | .nop | .mest _ _ | .tokens _ _ => []

theorem plane_setPlane_of_not_mem {s : State} {ds : List Nat} {d k : Nat} (p : Plane) (hk : k ∉ ds) (hd : d ∈ ds) :
    (s.setPlane d p).plane k = s.plane k := State.plane_setPlane_ne s p fun hdk => hk (hdk ▸ hd)

theorem plane_setTriple_of_not_mem {s : State} {d k : Nat} (p q r : Plane) (hk : k ∉ tripleAt d) :
    (s.setTriple d p q r).plane k = s.plane k := by
  rw [State.setTriple, plane_setPlane_of_not_mem _ hk (by simp), plane_setPlane_of_not_mem _ hk (by simp),
    plane_setPlane_of_not_mem _ hk (by simp)]

theorem effectOf_plane_of_not_mem {i : Instr} (hi : i ≠ .frame) {k : Nat} (hk : k ∉ planesWritten i) (s : State) :
    (effectOf i s).plane k = s.plane k := by
  cases i
  case frame => exact absurd rfl hi
  case nop | mest | tokens => rfl
  case csc => rw [effectOf, cscEffect, State.nextDraw_plane, plane_setTriple_of_not_mem _ _ _ hk]
  case delta => rw [effectOf, deltaEffect, State.nextDraw_plane, plane_setTriple_of_not_mem _ _ _ hk]
  case dct =>
    exact (plane_setPlane_of_not_mem _ hk List.mem_cons_self).trans
      (plane_setPlane_of_not_mem _ hk (List.mem_cons_of_mem _ List.mem_cons_self))
  case endseq =>
    rw [effectOf, endseqEffect_plane, if_neg]
    simp only [planesWritten, tripleAt, List.mem_cons, List.not_mem_nil, or_false, not_or] at hk
    omega
  all_goals exact plane_setPlane_of_not_mem _ hk List.mem_cons_self

/-- A plane register that no command of a list writes is unchanged. -/
theorem effectsOf_plane {is : List Instr} (his : Instr.frame ∉ is) {k : Nat} (hk : ∀ i ∈ is, k ∉ planesWritten i)
    (s : State) : (effectsOf is s).plane k = s.plane k :=
  effectsOf_induction (R := fun s t => t.plane k = s.plane k) (fun _ => rfl) (fun h h' => h'.trans h)
    (fun i hi => effectOf_plane_of_not_mem (fun hframe => his (hframe ▸ hi)) (hk i hi)) s

/-- A plane register that no command of a run writes is unchanged. -/
theorem runAll_plane {is : List Instr} (his : Instr.frame ∉ is) {k : Nat} (hk : ∀ i ∈ is, k ∉ planesWritten i)
    {s u : State} (hrun : s.fault = false) (h : runAll is s = some u) : u.plane k = s.plane k := by
  rw [runAll_eq_effectsOf his hrun h]
  exact effectsOf_plane his hk s

/-- The token registers that a command writes. -/
def tokensWritten : Instr → List Nat
  | .tokens r _ => [r.val]
  | .frame => List.range 3
  | _ => []

theorem effectOf_token_of_not_mem {i : Instr} (hi : i ≠ .frame) {k : Nat} (hk : k ∉ tokensWritten i) (s : State) :
    (effectOf i s).token k = s.token k := by
  obtain ⟨-, -, -, htokens⟩ := effectOf_sequenceState i s
  by_cases hwrites : ∃ r a, i = .tokens r a
  · obtain ⟨r, a, rfl⟩ := hwrites
    exact State.token_setToken_ne s _ fun hrk => hk (List.mem_singleton.2 hrk.symm)
  · rw [State.token, State.token, htokens hi fun r a hra => hwrites ⟨r, a, hra⟩]

theorem effectsOf_token {is : List Instr} (his : Instr.frame ∉ is) {k : Nat} (hk : ∀ i ∈ is, k ∉ tokensWritten i)
    (s : State) : (effectsOf is s).token k = s.token k :=
  effectsOf_induction (R := fun s t => t.token k = s.token k) (fun _ => rfl) (fun h h' => h'.trans h)
    (fun i hi => effectOf_token_of_not_mem (fun hframe => his (hframe ▸ hi)) (hk i hi)) s

/-- Whether a command writes `MVB`. -/
def writesMvb : Instr → Bool
  | .mest _ _ | .frame | .endseq => true
  | _ => false

theorem effectsOf_mvb {is : List Instr} (his : ∀ i ∈ is, writesMvb i = false) (s : State) :
    (effectsOf is s).mvb = s.mvb := by
  refine effectsOf_induction (R := fun s t => t.mvb = s.mvb) (fun _ => rfl) (fun h h' => h'.trans h)
    (fun i hi s => ?_) s
  obtain ⟨-, -, hmvb, -⟩ := effectOf_sequenceState i s
  have hwrites := his i hi
  exact hmvb (by rintro rfl; cases hwrites) (by rintro rfl; cases hwrites) (by rintro a b rfl; cases hwrites)

theorem sequenceSame_trans {s t u : State} (h : sequenceSame s t) (h' : sequenceSame t u) : sequenceSame s u := by
  unfold sequenceSame at *
  simp only [h', h, and_self]

/-- Whether a command writes `HAVE_PREV`, `FTYPE` or `FRAMEIDX`. -/
def writesSequence : Instr → Bool
  | .frame | .endseq => true
  | _ => false

theorem effectsOf_sequenceSame {is : List Instr} (his : ∀ i ∈ is, writesSequence i = false) (s : State) :
    sequenceSame s (effectsOf is s) := by
  refine effectsOf_induction (R := sequenceSame) (fun _ => ⟨rfl, rfl, rfl, rfl, rfl, rfl⟩) sequenceSame_trans
    (fun i hi s => ?_) s
  have hwrites := his i hi
  have hframe : i ≠ .frame := by rintro rfl; cases hwrites
  obtain ⟨hprev, htype, -⟩ := effectOf_sequenceState i s
  obtain ⟨hprev, hindex⟩ := hprev hframe (by rintro rfl; cases hwrites)
  obtain ⟨hfault, herr, hfcmd, -⟩ := effectOf_faultAndCountSame i s
  exact ⟨hfault, herr, hfcmd, hprev, htype hframe, hindex⟩

/-! ## The last write of a register -/

/-- A complete plane and the copy of it are equal when nothing writes either of them afterwards. -/
theorem effectsOf_copy {is js : List Instr} {d a : PlaneReg} {s : State} {w h : Nat} {tag : Tag}
    (his : Instr.frame ∉ is) (hsuffix : .copy d a :: js <:+ is) (hda : d ≠ a)
    (hd : ∀ i ∈ js, d.val ∉ planesWritten i) (ha : ∀ i ∈ js, a.val ∉ planesWritten i)
    (hplane : isPlane ((effectsOf is s).plane a) w h tag) : (effectsOf is s).plane d = (effectsOf is s).plane a := by
  obtain ⟨before, rfl⟩ := hsuffix
  have hjs : Instr.frame ∉ js := fun h => his (by simp [h])
  have hsource : (effectsOf (before ++ .copy d a :: js) s).plane a = (effectsOf before s).plane a := by
    rw [effectsOf_append, effectsOf_cons, effectsOf_plane hjs ha]
    exact State.plane_setPlane_ne _ _ (Fin.val_ne_of_ne hda)
  rw [hsource] at hplane ⊢
  obtain ⟨hvalid, rfl, rfl, -, hfull, -⟩ := hplane
  rw [effectsOf_append, effectsOf_cons, effectsOf_plane hjs hd, effectOf, copyEffect_of_full hvalid hfull,
    State.plane_setPlane_self _ _ d.isLt]

theorem effectsOf_tokens_valid {is js : List Instr} {r : TokenReg} {a : PlaneReg} (his : Instr.frame ∉ is)
    (hsuffix : .tokens r a :: js <:+ is) (hr : ∀ i ∈ js, r.val ∉ tokensWritten i) (s : State) :
    ((effectsOf is s).token r).valid = true := by
  obtain ⟨before, rfl⟩ := hsuffix
  have hjs : Instr.frame ∉ js := fun h => his (by simp [h])
  rw [effectsOf_append, effectsOf_cons, effectOf, effectsOf_token hjs hr, tokensEffect,
    State.token_setToken_self _ _ r.isLt]
  rfl

/-- The vectors of a search whose reference nothing has written before and after which nothing writes `MVB`. -/
theorem effectsOf_mest {is before js : List Instr} {a b : PlaneReg} (hsplit : is = before ++ .mest a b :: js)
    (hbefore : Instr.frame ∉ before) (ha : ∀ i ∈ before, a.val ∉ planesWritten i)
    (hjs : ∀ i ∈ js, writesMvb i = false) (s : State) :
    (effectsOf is s).mvb.valid = true ∧ (effectsOf is s).mvb.w = (s.plane a).w ∧
      (effectsOf is s).mvb.h = (s.plane a).h ∧
      (effectsOf is s).mvb.count = nmb (s.plane a).w (s.plane a).h := by
  have hmvb : (effectsOf is s).mvb = mestBuffer a b (effectsOf before s) := by
    rw [hsplit, effectsOf_append, effectsOf_cons, effectsOf_mvb hjs]
    rfl
  rw [hmvb, ← effectsOf_plane hbefore ha s]
  exact ⟨rfl, rfl, rfl, rfl⟩

end Sys2Proof.Machine
end

section
/-! SUPPORT. Which complete planes a run of stage commands needs and leaves (spec/49_frame_control.md R148, R154). -/

namespace Sys2Proof.Machine

open Sys2Proof Claims

/-! ## Complete planes -/

/-- A running engine with a legal `QUALITY` on which the plane registers listed as `(number, w, h, tag)` are complete planes
of that size and tag; the first entry of a number counts, so that a write is an entry in front. -/
structure Ready (ps : List (Nat × Nat × Nat × Tag)) (s : State) : Prop where
  running : s.fault = false
  quality : qualityLegal s.quality
  plane : ∀ {k w h : Nat} {tag : Tag}, ps.lookup k = some (w, h, tag) → isPlane (s.plane k) w h tag

theorem lookup_cons_eq_ite {α : Type} (k d : Nat) (x : α) (l : List (Nat × α)) :
    List.lookup k ((d, x) :: l) = if k = d then some x else l.lookup k := by
  by_cases hk : k = d
  · simp [hk]
  · simp [List.lookup_cons, beq_false_of_ne hk, hk]

theorem lt_of_plane_valid {s : State} {k : Nat} (h : (s.plane k).state = .valid) : k < 32 := by
  by_contra hk
  simp [State.plane, hk, Plane.empty] at h

section Writes

variable {ps qs : List (Nat × Nat × Nat × Tag)} {s t : State} {d w h : Nat} {tag : Tag}

/-- The planes of a command's frame that are not its destinations stay as they are. -/
theorem Ready.of_planeFrame {ds : List Nat} (hs : Ready ps s) (hframe : planeFrame ds s t)
    (hwritten : ∀ k ∈ ds, ∀ {w h tag}, qs.lookup k = some (w, h, tag) → isPlane (t.plane k) w h tag)
    (hkept : ∀ k, k ∉ ds → qs.lookup k = ps.lookup k) : Ready qs t := by
  obtain ⟨⟨-, -, hquality, -⟩, ⟨hfault, -⟩, hplanes, -⟩ := hframe
  refine ⟨hfault.trans hs.running, hquality ▸ hs.quality, fun {k w h tag} hk => ?_⟩
  by_cases hmem : k ∈ ds
  · exact hwritten k hmem hk
  · have hold := hs.plane ((hkept k hmem).symm.trans hk)
    have ⟨hvalid, _⟩ := hold
    rw [hplanes k (lt_of_plane_valid hvalid) hmem]
    exact hold

theorem Ready.write (hs : Ready ps s) (hframe : planeFrame [d] s t) (hplane : isPlane (t.plane d) w h tag) :
    Ready ((d, w, h, tag) :: ps) t := by
  refine hs.of_planeFrame hframe (List.forall_mem_singleton.2 fun hk => ?_) fun k hk => ?_
  · rw [lookup_cons_eq_ite, if_pos rfl] at hk
    cases hk
    exact hplane
  · rw [lookup_cons_eq_ite, if_neg (mt List.mem_singleton.2 hk)]

theorem Ready.writeTriple (hs : Ready ps s) (hframe : planeFrame (tripleAt d) s t)
    (hplanes : ∀ k ∈ tripleAt d, isPlane (t.plane k) w h tag) :
    Ready ((d + 2, w, h, tag) :: (d + 1, w, h, tag) :: (d, w, h, tag) :: ps) t := by
  have hlookup (k : Nat) : List.lookup k ((d + 2, w, h, tag) :: (d + 1, w, h, tag) :: (d, w, h, tag) :: ps) =
      if k ∈ tripleAt d then some (w, h, tag) else ps.lookup k := by
    simp only [lookup_cons_eq_ite, tripleAt, List.mem_cons, List.not_mem_nil, or_false]
    split_ifs <;> first | rfl | omega
  refine hs.of_planeFrame hframe (fun k hk w' h' tag' hwritten => ?_) fun k hk => ?_
  · rw [hlookup, if_pos hk] at hwritten
    cases hwritten
    exact hplanes k hk
  · rw [hlookup, if_neg hk]

end Writes

/-- Every run over the commands `is` from a state that has the planes `ps` takes no fault, and leaves the planes `qs`. -/
def Leads (ps : List (Nat × Nat × Nat × Tag)) (is : List Instr) (qs : List (Nat × Nat × Nat × Tag)) : Prop :=
  ∀ s, Ready ps s → ∃ t, runAll is s = some t ∧ Ready qs t

theorem runAll_singleton {i : Instr} {s t : State} (hexec : exec i s = .next t) (hrun : t.fault = false) :
    runAll [i] s = some t := runAll_cons_of_exec hexec hrun

section Leads

variable {ps qs rs : List (Nat × Nat × Nat × Tag)} {d a : PlaneReg} {w h : Nat} {tag : Tag}

theorem Leads.append {is js : List Instr} (h : Leads ps is qs) (h' : Leads qs js rs) : Leads ps (is ++ js) rs := by
  intro s hs
  obtain ⟨t, hrun, ht⟩ := h s hs
  obtain ⟨u, hrun', hu⟩ := h' t ht
  exact ⟨u, (runAll_append hrun).trans hrun', hu⟩

theorem Leads.cons {i : Instr} {js : List Instr} (h : Leads ps [i] qs) (h' : Leads qs js rs) : Leads ps (i :: js) rs :=
  h.append h'

/-- A command that completes with one plane register as its destination. -/
theorem Leads.of_exec {i : Instr} (hcompletes : ∀ s, Ready ps s →
    ∃ t, exec i s = .next t ∧ planeFrame [d.val] s t ∧ isPlane (t.plane d.val) w h tag) :
    Leads ps [i] ((d.val, w, h, tag) :: ps) := by
  intro s hs
  obtain ⟨t, hexec, hframe, hplane⟩ := hcompletes s hs
  have ht := hs.write hframe hplane
  exact ⟨t, runAll_singleton hexec ht.running, ht⟩

/-! ## The stages that write one plane -/

theorem leads_copy (ha : ps.lookup a.val = some (w, h, tag)) : Leads ps [.copy d a] ((d.val, w, h, tag) :: ps) := by
  refine .of_exec fun s hs => ?_
  obtain ⟨hvalid, rfl, rfl, htag, -, hlen⟩ := hs.plane ha
  obtain ⟨-, hcompletes⟩ := copyMakesAnEqualPlane s d a hs.running
  obtain ⟨t, hexec, hframe, hplane, -⟩ := hcompletes hvalid
  exact ⟨t, hexec, hframe, hplane ▸ ⟨hvalid, rfl, rfl, htag, rfl, hlen⟩⟩

theorem leads_lpf (ha : ps.lookup a.val = some (w, h, .fullsize)) :
    Leads ps [.lpf d a] ((d.val, w, h, .fullsize) :: ps) := by
  refine .of_exec fun s hs => ?_
  obtain ⟨hvalid, rfl, rfl, htag, -, -⟩ := hs.plane ha
  obtain ⟨-, -, hcompletes⟩ := lpfSmoothsInTwoPasses s d a hs.running
  obtain ⟨t, hexec, hframe, hplane, -⟩ := hcompletes hvalid htag
  exact ⟨t, hexec, hframe, hplane⟩

theorem leads_subs (ha : ps.lookup a.val = some (w, h, .fullsize)) (hw : w % 2 = 0) (hh : h % 2 = 0) :
    Leads ps [.subs d a] ((d.val, w / 2, h / 2, .downsample) :: ps) := by
  refine .of_exec fun s hs => ?_
  obtain ⟨hvalid, rfl, rfl, htag, -, -⟩ := hs.plane ha
  obtain ⟨-, -, -, hcompletes⟩ := subsTakesEvenSamples s d a hs.running
  obtain ⟨t, hexec, hframe, hplane, -⟩ := hcompletes hvalid htag ⟨hw, hh⟩
  exact ⟨t, hexec, hframe, hplane⟩

section Blocked

variable (ha : ps.lookup a.val = some (w, h, tag)) (htag : tag ∈ [Tag.fullsize, .downsample]) (hw : w % 8 = 0)
  (hh : h % 8 = 0)

include ha htag hw hh

theorem leads_quant : Leads ps [.quant d a] ((d.val, w, h, tag) :: ps) := by
  refine .of_exec fun s hs => ?_
  obtain ⟨hvalid, rfl, rfl, rfl, -, -⟩ := hs.plane ha
  obtain ⟨-, -, -, -, hcompletes⟩ := quantDividesByTheEffectiveStep s d a hs.running
  obtain ⟨t, hexec, hframe, hplane, -⟩ := hcompletes hs.quality hvalid htag ⟨hw, hh⟩
  exact ⟨t, hexec, hframe, hplane⟩

theorem leads_dcpred : Leads ps [.dcpred d a] ((d.val, w / 8, h / 8, .dcdiff) :: ps) := by
  refine .of_exec fun s hs => ?_
  obtain ⟨hvalid, rfl, rfl, rfl, -, -⟩ := hs.plane ha
  obtain ⟨-, -, -, hcompletes⟩ := dcpredDifferencesColumnMajor s d a hs.running
  obtain ⟨t, hexec, hframe, hplane, -⟩ := hcompletes hvalid htag ⟨hw, hh⟩
  exact ⟨t, hexec, hframe, hplane⟩

theorem leads_zigzag : Leads ps [.zigzag d a] ((d.val, 64, w / 8 * (h / 8), .zigzag) :: ps) := by
  refine .of_exec fun s hs => ?_
  obtain ⟨hvalid, rfl, rfl, rfl, -, -⟩ := hs.plane ha
  obtain ⟨-, -, -, hcompletes⟩ := zigzagPermutesEachBlock s d a hs.running
  obtain ⟨t, hexec, hframe, hplane, -⟩ := hcompletes hvalid htag ⟨hw, hh⟩
  exact ⟨t, hexec, hframe, hplane⟩

/-- The source is level-shifted and stays complete. -/
theorem leads_dct (hda : d ≠ a) : Leads ps [.dct d a] ((d.val, w, h, tag) :: ps) := by
  intro s hs
  obtain ⟨hvalid, rfl, rfl, rfl, hfill, -⟩ := hs.plane ha
  obtain ⟨-, -, -, hcompletes⟩ := dctShiftsAndTransforms s d a hs.running
  obtain ⟨t, hexec, hframe, hplane, hsource, -⟩ := hcompletes hvalid htag ⟨hw, hh⟩
  obtain ⟨hsame, hlen, -⟩ := hsource hda
  have hne : a.val ≠ d.val := Fin.val_ne_of_ne hda.symm
  have ht : Ready ((d.val, (s.plane a).w, (s.plane a).h, (s.plane a).tag) :: ps) t := by
    refine hs.of_planeFrame hframe (List.forall_mem_cons.2 ⟨fun hk => ?destination,
      List.forall_mem_singleton.2 fun hk => ?source⟩) fun k hk => ?kept
    case destination =>
      rw [lookup_cons_eq_ite, if_pos rfl] at hk
      cases hk
      exact hplane
    case source =>
      rw [lookup_cons_eq_ite, if_neg hne, ha] at hk
      cases hk
      rw [hsame]
      exact ⟨hvalid, rfl, rfl, rfl, hfill, hlen⟩
    case kept =>
      obtain ⟨hkd, -⟩ := not_or.1 (mt List.mem_cons.2 hk)
      rw [lookup_cons_eq_ite, if_neg hkd]
  exact ⟨t, runAll_singleton hexec ht.running, ht⟩

end Blocked

/-! ## Token streams -/

/-- A command that changes no plane. -/
theorem Ready.of_planes_eq {s t : State} (hs : Ready ps s) (hhost : hostSideSame s t) (hsequence : sequenceSame s t)
    (hplanes : t.planes = s.planes) : Ready ps t := by
  obtain ⟨-, -, hquality, -⟩ := hhost
  obtain ⟨hfault, -⟩ := hsequence
  refine ⟨hfault.trans hs.running, hquality ▸ hs.quality, fun {k _ _ _} hk => ?_⟩
  rw [State.plane, hplanes]
  exact hs.plane hk

theorem leads_tokens {r : TokenReg} (ha : ps.lookup a.val = some (64, h, .zigzag)) : Leads ps [.tokens r a] ps := by
  intro s hs
  obtain ⟨hvalid, hw, -, htag, -, -⟩ := hs.plane ha
  obtain ⟨-, -, -, hcompletes⟩ := tokensEncodesEachRow s r a hs.running
  obtain ⟨t, hexec, hhost, hsequence, hplanes, -⟩ := hcompletes hvalid htag hw
  have ht := hs.of_planes_eq hhost hsequence hplanes
  exact ⟨t, runAll_singleton hexec ht.running, ht⟩

end Leads

/-! ## The commands on frame operands -/

/-- The planes numbered in `ks` are `VALID`, `FULLSIZE` and `w` by `h`. -/
def fullsizeAt (s : State) (w h : Nat) (ks : List Nat) : Prop :=
  allValidAt s ks ∧ allTaggedAt s [.fullsize] ks ∧ allSizedAt s w h ks

section FullsizeAt

variable {s t : State} {w h : Nat} {ks js : List Nat}

theorem fullsizeAt_append : fullsizeAt s w h (ks ++ js) ↔ fullsizeAt s w h ks ∧ fullsizeAt s w h js := by
  simp only [fullsizeAt, List.forall_mem_append]
  tauto

theorem fullsizeAt_of_plane_eq (hplanes : ∀ k ∈ ks, t.plane k = s.plane k) (hs : fullsizeAt s w h ks) :
    fullsizeAt t w h ks := by
  obtain ⟨hvalid, htag, hsize⟩ := hs
  refine ⟨fun k hk => ?_, fun k hk => ?_, fun k hk => ?_⟩ <;> rw [hplanes k hk]
  exacts [hvalid k hk, htag k hk, hsize k hk]

theorem Ready.fullsizeAt {ps : List (Nat × Nat × Nat × Tag)} (hs : Ready ps s)
    (hks : ∀ k ∈ ks, ps.lookup k = some (w, h, .fullsize)) : fullsizeAt s w h ks := by
  refine ⟨fun k hk => ?_, fun k hk => ?_, fun k hk => ?_⟩ <;>
    obtain ⟨hvalid, hw, hh, htag, -, -⟩ := hs.plane (hks k hk)
  exacts [hvalid, List.mem_singleton.2 htag, ⟨hw, hh⟩]

end FullsizeAt

section Triples

variable {ps : List (Nat × Nat × Nat × Tag)} {s : State} {d a b : PlaneReg} {w h : Nat}

theorem exists_runAll_csc (hs : Ready ps s) (hd : d.val ≤ 29) (ha : a.val ≤ 29)
    (hsource : fullsizeAt s w h (tripleAt a.val)) :
    ∃ t, runAll [.csc d a] s = some t ∧
      Ready ((d.val + 2, w, h, .fullsize) :: (d.val + 1, w, h, .fullsize) :: (d.val, w, h, .fullsize) :: ps) t := by
  obtain ⟨hvalid, htag, hsize⟩ := hsource
  obtain ⟨rfl, rfl⟩ := hsize a.val List.mem_cons_self
  obtain ⟨-, -, -, hcompletes⟩ := cscConvertsEachPixel s d a hs.running hd ha
  obtain ⟨t, hexec, hframe, hplanes, -⟩ := hcompletes hvalid htag hsize
  have ht := hs.writeTriple hframe hplanes
  exact ⟨t, runAll_singleton hexec ht.running, ht⟩

/-- The motion search leaves the vectors that the delta of the same frames asks for. -/
theorem exists_runAll_mest_delta (hs : Ready ps s) (hd : d.val ≤ 29) (ha : a.val ≤ 29) (hb : b.val ≤ 29)
    (hsources : fullsizeAt s w h (bothTriples a.val b.val)) :
    ∃ t, runAll [.mest a b, .delta d a b] s = some t ∧
      Ready ((d.val + 2, w, h, .fullsize) :: (d.val + 1, w, h, .fullsize) :: (d.val, w, h, .fullsize) :: ps) t := by
  obtain ⟨hvalid, htag, hsize⟩ := hsources
  obtain ⟨rfl, rfl⟩ := hsize a.val List.mem_cons_self
  obtain ⟨-, -, -, hsearched⟩ := mestFillsTheVectorBuffer s a b hs.running ha hb
  obtain ⟨t, hmest, hhost, hsequence, hplanes, -, -, hmvb, hmvbw, hmvbh, -⟩ := hsearched hvalid htag hsize
  have ht := hs.of_planes_eq hhost hsequence hplanes
  have hplane (k : Nat) : t.plane k = s.plane k := by rw [State.plane, hplanes, State.plane]
  obtain ⟨hvalid', htag', hsize'⟩ := fullsizeAt_of_plane_eq (t := t) (fun k _ => hplane k) ⟨hvalid, htag, hsize⟩
  obtain ⟨-, -, -, hcompletes⟩ := deltaSubtractsTheDisplacedReference t d a b ht.running hd ha hb
  rw [hplane] at hcompletes
  obtain ⟨u, hdelta, hframe, hplanes, -⟩ := hcompletes hvalid' hmvb htag' ⟨hsize', hmvbw, hmvbh⟩
  have hu := ht.writeTriple hframe hplanes
  exact ⟨u, (runAll_cons_of_exec hmest ht.running).trans (runAll_singleton hdelta hu.running), hu⟩

end Triples

end Sys2Proof.Machine
end

section
/-! THEOREM. `FRAME`: its checks, its expansion, and what it leaves (spec/49_frame_control.md R147 to R154). -/

namespace Sys2Proof.Machine

open Sys2Proof Claims

/-! ## The checks (spec/49_frame_control.md R147) -/

theorem isPFrame_eq (s : State) : s.isPFrame = decide (s.frameIdx.toNat % s.ifreq.toNat ≠ 0) := by
  rw [Bool.eq_iff_iff, State.isPFrame, bne_iff_ne, decide_eq_true_iff]

theorem isPFrame_eq_true_iff (s : State) : s.isPFrame = true ↔ pType s := by rw [isPFrame_eq, decide_eq_true_iff]

theorem frameSources_eq (s : State) : frameSources s = (frameReads s).map s.plane := by
  by_cases hp : pType s
  · rw [frameSources, if_pos ((isPFrame_eq_true_iff s).2 hp), frameReads, if_pos hp]
    rfl
  · rw [frameSources, if_neg (mt (isPFrame_eq_true_iff s).1 hp), frameReads, if_neg hp]
    rfl

theorem frameConfigOk_iff (s : State) : frameConfigOk s = true ↔ frameConfigured s := by
  simp only [frameConfigOk, Bool.and_eq_true, bne_iff_ne, beq_iff_eq, legalQuality_eq_true_iff, and_assoc,
    frameConfigured]

theorem frameLoaded_iff (s : State) :
    (allValid (frameSources s) && (!s.isPFrame || s.havePrev)) = true ↔ frameLoaded s := by
  rw [Bool.and_eq_true, frameSources_eq, allValid_map_iff]
  refine and_congr_right fun _ => ?_
  rw [← isPFrame_eq_true_iff]
  cases s.isPFrame <;> simp

theorem frameTagged_iff (s : State) : allTagged [.fullsize] (frameSources s) = true ↔ frameTagged s := by
  rw [frameSources_eq, allTagged_map_iff]

theorem frameSized_iff (s : State) :
    allSized s.width.toNat s.height.toNat (frameSources s) = true ↔ frameSized s := by
  rw [frameSources_eq, allSized_map_iff]

theorem firstFailure_frame (s : State) :
    (¬frameConfigured s → firstFailure (checksOf .frame s) = some .config) ∧
      (frameConfigured s → ¬frameLoaded s → firstFailure (checksOf .frame s) = some .unwritten) ∧
      (frameConfigured s → frameLoaded s → ¬frameTagged s → firstFailure (checksOf .frame s) = some .tag) ∧
      (frameConfigured s → frameLoaded s → frameTagged s → ¬frameSized s →
        firstFailure (checksOf .frame s) = some .shape) ∧
      (frameReady s → firstFailure (checksOf .frame s) = none) := by
  unfold checksOf frameChecks
  refine ⟨fun hconfig => firstFailure_cons_fail (mt (frameConfigOk_iff s).1 hconfig), fun hconfig hloaded => ?unwritten,
    fun hconfig hloaded htag => ?tag, fun hconfig hloaded htag hsize => ?shape,
    fun ⟨hconfig, hloaded, htag, hsize⟩ => ?none⟩
  all_goals rw [firstFailure_cons_pass ((frameConfigOk_iff s).2 hconfig)]
  case unwritten => exact firstFailure_cons_fail (mt (frameLoaded_iff s).1 hloaded)
  all_goals rw [firstFailure_cons_pass ((frameLoaded_iff s).2 hloaded)]
  case tag => exact firstFailure_cons_fail (mt (frameTagged_iff s).1 htag)
  all_goals rw [firstFailure_cons_pass ((frameTagged_iff s).2 htag)]
  case shape => exact firstFailure_cons_fail (mt (frameSized_iff s).1 hsize)
  case none => exact firstFailure_cons_pass ((frameSized_iff s).2 hsize)

/-- Settles O46: the first failing check is the fault. -/
theorem frameChecksInOrder : Obligations.FrameChecksInOrder := by
  intro s hrun
  obtain ⟨hconfig, hunwritten, htag, hshape, -⟩ := firstFailure_frame s
  have hfault {code : FaultCode} (h : firstFailure (checksOf .frame s) = some code) : faultsWith .frame s code :=
    faultsWith_of_firstFailure hrun rfl h
  exact ⟨fun h => hfault (hconfig h), fun h h' => hfault (hunwritten h h'), fun h h' h'' => hfault (htag h h' h''),
    fun h h' h'' h''' => hfault (hshape h h' h'' h''')⟩

/-! ## Step 0 -/

theorem frameInvalidate_plane (s : State) (k : Nat) :
    (frameInvalidate s).plane k = if 9 ≤ k ∧ k ≤ 25 then Plane.empty else s.plane k := by
  simp [frameInvalidate, State.plane_emptyPlanes, Nat.lt_succ_iff]

theorem frameInvalidate_token (s : State) {k : Nat} (hk : k < 4) :
    (frameInvalidate s).token k = if k < 3 then { s.token k with valid := false } else s.token k := by
  interval_cases k <;> simp [frameInvalidate, State.invalidateToken]

theorem frameInvalidate_hostSideSame (s : State) : hostSideSame s (frameInvalidate s) := by
  simp [hostSideSame, frameInvalidate]

theorem frameInvalidate_sequenceSame (s : State) : sequenceSame s (frameInvalidate s) := by
  simp [sequenceSame, frameInvalidate]

theorem frameInvalidate_mvb (s : State) : (frameInvalidate s).mvb = { s.mvb with valid := false } := by
  simp [frameInvalidate]

/-! ## The stages (spec/49_frame_control.md R149) -/

/-- Steps 2 and 3. -/
def smoothingStages : List Instr := [.copy 3 0, .lpf 4 1, .lpf 5 2]

/-- Steps 4 and 5. -/
def predictionStages (ptype : Bool) : List Instr :=
  if ptype then [.mest 6 3, .delta 9 6 3] else [.copy 9 3, .copy 10 4, .copy 11 5]

/-- Steps 6 to 12. -/
def codingStages : List Instr :=
  [.subs 12 10, .subs 13 11, .dct 14 9, .dct 15 12, .dct 16 13, .quant 17 14, .quant 18 15, .quant 19 16,
   .dcpred 20 17, .dcpred 21 18, .dcpred 22 19, .zigzag 23 17, .zigzag 24 18, .zigzag 25 19,
   .tokens 0 23, .tokens 1 24, .tokens 2 25, .copy 6 3, .copy 7 4, .copy 8 5]

theorem expansion_eq (ptype : Bool) : expansion ptype =
    .csc 0 0 :: smoothingStages ++ (predictionStages ptype ++ codingStages) := by
  cases ptype <;> rfl

/-- `FULLSIZE` planes of one size. -/
def fullsizePlanes (w h : Nat) (ks : List Nat) : List (Nat × Nat × Nat × Tag) := ks.map fun k => (k, w, h, .fullsize)

/-- The planes that the coding stages leave (spec/49_frame_control.md R148), the last one written first. -/
def codedPlanes (w h : Nat) : List (Nat × Nat × Nat × Tag) :=
  [(8, w, h, .fullsize), (7, w, h, .fullsize), (6, w, h, .fullsize),
   (25, 64, w / 2 / 8 * (h / 2 / 8), .zigzag), (24, 64, w / 2 / 8 * (h / 2 / 8), .zigzag),
   (23, 64, w / 8 * (h / 8), .zigzag),
   (22, w / 2 / 8, h / 2 / 8, .dcdiff), (21, w / 2 / 8, h / 2 / 8, .dcdiff), (20, w / 8, h / 8, .dcdiff),
   (19, w / 2, h / 2, .downsample), (18, w / 2, h / 2, .downsample), (17, w, h, .fullsize),
   (16, w / 2, h / 2, .downsample), (15, w / 2, h / 2, .downsample), (14, w, h, .fullsize),
   (13, w / 2, h / 2, .downsample), (12, w / 2, h / 2, .downsample)]

/-- The planes after step 12. -/
def planesAfterFrame (w h : Nat) : List (Nat × Nat × Nat × Tag) :=
  codedPlanes w h ++ fullsizePlanes w h [11, 10, 9, 5, 4, 3, 2, 1, 0]

section Stages

variable {w h : Nat}

theorem leads_smoothing :
    Leads (fullsizePlanes w h [2, 1, 0]) smoothingStages (fullsizePlanes w h [5, 4, 3, 2, 1, 0]) :=
  (leads_copy rfl).cons <| (leads_lpf rfl).cons (leads_lpf rfl)

theorem leads_copies : Leads (fullsizePlanes w h [5, 4, 3, 2, 1, 0]) (predictionStages false)
    (fullsizePlanes w h [11, 10, 9, 5, 4, 3, 2, 1, 0]) :=
  (leads_copy rfl).cons <| (leads_copy rfl).cons (leads_copy rfl)

theorem leads_coding (hw : w % 16 = 0) (hh : h % 16 = 0) :
    Leads (fullsizePlanes w h [11, 10, 9, 5, 4, 3, 2, 1, 0]) codingStages (planesAfterFrame w h) := by
  have hw2 : w % 2 = 0 := by omega
  have hh2 : h % 2 = 0 := by omega
  have hw8 : w % 8 = 0 := by omega
  have hh8 : h % 8 = 0 := by omega
  have hw8' : w / 2 % 8 = 0 := by omega
  have hh8' : h / 2 % 8 = 0 := by omega
  have hfull : Tag.fullsize ∈ [Tag.fullsize, .downsample] := by simp
  have hdown : Tag.downsample ∈ [Tag.fullsize, .downsample] := by simp
  exact (leads_subs rfl hw2 hh2).cons <| (leads_subs rfl hw2 hh2).cons <|
    (leads_dct rfl hfull hw8 hh8 (by decide)).cons <| (leads_dct rfl hdown hw8' hh8' (by decide)).cons <|
    (leads_dct rfl hdown hw8' hh8' (by decide)).cons <|
    (leads_quant rfl hfull hw8 hh8).cons <| (leads_quant rfl hdown hw8' hh8').cons <|
    (leads_quant rfl hdown hw8' hh8').cons <|
    (leads_dcpred rfl hfull hw8 hh8).cons <| (leads_dcpred rfl hdown hw8' hh8').cons <|
    (leads_dcpred rfl hdown hw8' hh8').cons <|
    (leads_zigzag rfl hfull hw8 hh8).cons <| (leads_zigzag rfl hdown hw8' hh8').cons <|
    (leads_zigzag rfl hdown hw8' hh8').cons <|
    (leads_tokens rfl).cons <| (leads_tokens rfl).cons <| (leads_tokens rfl).cons <|
    (leads_copy rfl).cons <| (leads_copy rfl).cons (leads_copy rfl)

end Stages

/-! ## The run of the expansion (spec/49_frame_control.md R154) -/

theorem frameInvalidate_ready {s : State} (hrun : s.fault = false) (hquality : qualityLegal s.quality) :
    Ready [] (frameInvalidate s) := by
  obtain ⟨-, -, hquality', -⟩ := frameInvalidate_hostSideSame s
  obtain ⟨hfault, -⟩ := frameInvalidate_sequenceSame s
  exact ⟨hfault.trans hrun, by rwa [hquality'], by simp⟩

theorem lt_of_mem_frameReads {s : State} {k : Nat} (hk : k ∈ frameReads s) : k < 9 := by
  have hcurrent : ∀ k ∈ tripleAt 0, k < 9 := by decide
  have hprevious : ∀ k ∈ tripleAt 6, k < 9 := by decide
  obtain hk | hk := List.mem_append.1 hk
  · exact hcurrent k hk
  · split at hk
    · exact hprevious k hk
    · cases hk

/-- Step 0 empties no plane that `FRAME` reads. -/
theorem frameInvalidate_sources {s : State} (hready : frameReady s) :
    fullsizeAt (frameInvalidate s) s.width.toNat s.height.toNat (frameReads s) := by
  obtain ⟨-, ⟨hvalid, -⟩, htag, hsize⟩ := hready
  refine fullsizeAt_of_plane_eq (fun k hk => ?_) ⟨hvalid, htag, hsize⟩
  have hlt := lt_of_mem_frameReads hk
  rw [frameInvalidate_plane, if_neg (by omega)]

section Runs

variable {s : State} {w h : Nat}

/-- Steps 1 to 3, which leave the previous frame as it is. -/
theorem exists_runAll_smoothing (hs : Ready [] s) (hsource : fullsizeAt s w h (tripleAt 0)) :
    ∃ t, runAll (.csc 0 0 :: smoothingStages) s = some t ∧ Ready (fullsizePlanes w h [5, 4, 3, 2, 1, 0]) t ∧
      ∀ k ∈ tripleAt 6, t.plane k = s.plane k := by
  obtain ⟨r, hcsc, hr⟩ := exists_runAll_csc (d := 0) (a := 0) hs (by decide) (by decide) hsource
  obtain ⟨t, hsmooth, ht⟩ := leads_smoothing r hr
  have hrun : runAll (.csc 0 0 :: smoothingStages) s = some t := (runAll_append hcsc).trans hsmooth
  have hkept : ∀ k ∈ tripleAt 6, ∀ i ∈ .csc 0 0 :: smoothingStages, k ∉ planesWritten i := by decide
  exact ⟨t, hrun, ht, fun k hk => runAll_plane (by decide) (hkept k hk) hs.running hrun⟩

/-- Steps 4 and 5; only a P-frame asks for the previous frame. -/
theorem exists_runAll_prediction {ptype : Bool} (hs : Ready (fullsizePlanes w h [5, 4, 3, 2, 1, 0]) s)
    (hprevious : ptype = true → fullsizeAt s w h (tripleAt 6)) :
    ∃ t, runAll (predictionStages ptype) s = some t ∧ Ready (fullsizePlanes w h [11, 10, 9, 5, 4, 3, 2, 1, 0]) t := by
  cases ptype with
  | false => exact leads_copies s hs
  | true =>
    have htarget : fullsizeAt s w h (tripleAt 3) := hs.fullsizeAt (by simp [fullsizePlanes, List.lookup_cons])
    exact exists_runAll_mest_delta hs (by decide) (by decide) (by decide)
      (fullsizeAt_append.2 ⟨hprevious rfl, htarget⟩)

end Runs

/-- No stage takes a fault once the checks of `FRAME` hold. -/
theorem exists_runAll_expansion {s : State} (hrun : s.fault = false) (hready : frameReady s) :
    ∃ u, runAll (expansion s.isPFrame) (frameInvalidate s) = some u ∧
      Ready (planesAfterFrame s.width.toNat s.height.toNat) u := by
  obtain ⟨hcurrent, hprevious⟩ := fullsizeAt_append.1 (frameInvalidate_sources hready)
  obtain ⟨⟨-, -, hw, hh, hquality, -⟩, -⟩ := hready
  obtain ⟨r, hsmoothed, hr, hkept⟩ := exists_runAll_smoothing (frameInvalidate_ready hrun hquality) hcurrent
  obtain ⟨t, hpredicted, ht⟩ := exists_runAll_prediction (ptype := s.isPFrame) hr fun hptype => by
    rw [if_pos ((isPFrame_eq_true_iff s).1 hptype)] at hprevious
    exact fullsizeAt_of_plane_eq hkept hprevious
  obtain ⟨u, hcoded, hu⟩ := leads_coding hw hh t ht
  exact ⟨u, by rw [expansion_eq, runAll_append hsmoothed, runAll_append hpredicted, hcoded], hu⟩

/-! ## The whole command -/

/-- The state after steps 0 to 12, less the counts of the stages. -/
def frameStages (s : State) : State := effectsOf (expansion s.isPFrame) (frameInvalidate s)

/-- Step 13: what `FRAME` answers, given the state that its stages reach. -/
def frameAnswer (s u : State) : State :=
  { u with
    havePrev := true
    ftype := if s.frameIdx.toNat % s.ifreq.toNat ≠ 0 then .pFrame else .iFrame
    frameIdx := s.frameIdx + 1
    cmdCount := s.cmdCount + 1 }

theorem frameAnswer_withCount (s u : State) (c : Word) : frameAnswer s (u.withCount c) = frameAnswer s u := rfl

theorem writesSequence_of_mem_expansion (ptype : Bool) : ∀ i ∈ expansion ptype, writesSequence i = false := by
  cases ptype <;> decide

/-- No stage writes a sequence register. -/
theorem frameStages_sequenceSame (s : State) : sequenceSame s (frameStages s) :=
  sequenceSame_trans (frameInvalidate_sequenceSame s)
    (effectsOf_sequenceSame (writesSequence_of_mem_expansion s.isPFrame) (frameInvalidate s))

theorem frameStages_cmdCount (s : State) : (frameStages s).cmdCount = s.cmdCount := by
  obtain ⟨-, -, -, hcount⟩ := faultAndCountSame_trans (frameInvalidate_faultAndCountSame s)
    (effectsOf_faultAndCountSame (frame_not_mem_expansion s.isPFrame) (frameInvalidate s))
  exact hcount

/-- A run of the stages ends in their effects, with its own count. -/
theorem eq_frameStages_withCount {s u : State} (hrun : s.fault = false)
    (hu : runAll (expansion s.isPFrame) (frameInvalidate s) = some u) : u = (frameStages s).withCount u.cmdCount := by
  obtain ⟨hfault, -⟩ := frameInvalidate_sequenceSame s
  exact runAll_eq_effectsOf (frame_not_mem_expansion s.isPFrame) (hfault.trans hrun) hu

/-- `FRAME` does step 13 on the state that its stages reach. -/
theorem exec_frame {s : State} (hrun : s.fault = false) (hready : frameReady s) :
    exec .frame s = .next (frameAnswer s (frameStages s)) := by
  obtain ⟨-, -, -, -, hnone⟩ := firstFailure_frame s
  obtain ⟨-, -, -, -, -, hindex⟩ := frameStages_sequenceSame s
  have hcount := frameStages_cmdCount s
  rw [exec_completed hrun rfl (hnone hready), effectOf, frameEffect_eq_effectsOf, ← frameStages]
  simp only [frameFinish, State.countCommand, frameAnswer, hindex, hcount, isPFrame_eq, decide_eq_true_eq]

/-- Settles O48: the effect of `FRAME` is its stages' effects from the state after step 0, and their checks hold. -/
theorem frameIsTheSequenceOfItsStages : Obligations.FrameIsTheSequenceOfItsStages := by
  intro s hrun hready
  obtain ⟨u, hu, -⟩ := exists_runAll_expansion hrun hready
  obtain ⟨-, -, -, hcount⟩ := frameInvalidate_faultAndCountSame s
  have hanswer : frameAnswer s (frameStages s) = frameAnswer s u := by
    rw [eq_frameStages_withCount hrun hu, frameAnswer_withCount]
  exact ⟨frameInvalidate s, u, frameInvalidate_hostSideSame s, frameInvalidate_sequenceSame s, hcount,
    by simp [frameInvalidate], fun k _ => frameInvalidate_plane s k, fun k hk => frameInvalidate_token s hk,
    frameInvalidate_mvb s, isPFrame_eq s ▸ hu, (exec_frame hrun hready).trans (congrArg _ hanswer)⟩

/-! ## The registers afterwards (spec/49_frame_control.md R148 to R151) -/

/-- The stages from the smoothing of Cb on. -/
def stagesAfterLuma (ptype : Bool) : List Instr := [.lpf 4 1, .lpf 5 2] ++ (predictionStages ptype ++ codingStages)

section Expansion

variable {s : State} {w h : Nat} (ptype : Bool)

/-- The copies of steps 2 and 12, no later stage writing what is copied or the copy. -/
theorem expansion_copies
    (hplanes : ∀ k ∈ [0, 3, 4, 5], isPlane ((effectsOf (expansion ptype) s).plane k) w h .fullsize) :
    let t := effectsOf (expansion ptype) s
    t.plane 6 = t.plane 3 ∧ t.plane 7 = t.plane 4 ∧ t.plane 8 = t.plane 5 ∧ t.plane 3 = t.plane 0 := by
  have hframe := frame_not_mem_expansion ptype
  refine ⟨effectsOf_copy (d := 6) (a := 3) (js := [.copy 7 4, .copy 8 5]) hframe ?_ (by decide) (by decide) (by decide)
      (hplanes 3 (by decide)),
    effectsOf_copy (d := 7) (a := 4) (js := [.copy 8 5]) hframe ?_ (by decide) (by decide) (by decide)
      (hplanes 4 (by decide)),
    effectsOf_copy (d := 8) (a := 5) (js := []) hframe ?_ (by decide) (by decide) (by decide) (hplanes 5 (by decide)),
    effectsOf_copy (d := 3) (a := 0) (js := stagesAfterLuma ptype) hframe ?_ (by decide) ?_ ?_ (hplanes 0 (by decide))⟩
  all_goals cases ptype <;> decide

theorem expansion_tokens_valid (s : State) : ∀ k < 3, ((effectsOf (expansion ptype) s).token k).valid = true := by
  have hframe := frame_not_mem_expansion ptype
  intro k hk
  interval_cases k
  · exact effectsOf_tokens_valid (r := 0) (a := 23)
      (js := [.tokens 1 24, .tokens 2 25, .copy 6 3, .copy 7 4, .copy 8 5]) hframe (by cases ptype <;> decide) (by decide) s
  · exact effectsOf_tokens_valid (r := 1) (a := 24)
      (js := [.tokens 2 25, .copy 6 3, .copy 7 4, .copy 8 5]) hframe (by cases ptype <;> decide) (by decide) s
  · exact effectsOf_tokens_valid (r := 2) (a := 25)
      (js := [.copy 6 3, .copy 7 4, .copy 8 5]) hframe (by cases ptype <;> decide) (by decide) s

theorem expansion_above (s : State) {k : Nat} (hk : 26 ≤ k) : (effectsOf (expansion ptype) s).plane k = s.plane k := by
  have hbelow : ∀ i ∈ expansion ptype, ∀ d ∈ planesWritten i, d < 26 := by cases ptype <;> decide
  exact effectsOf_plane (frame_not_mem_expansion ptype) (fun i hi hmem => absurd (hbelow i hi k hmem) (by omega)) s

theorem expansion_token_three (s : State) : (effectsOf (expansion ptype) s).token 3 = s.token 3 :=
  effectsOf_token (frame_not_mem_expansion ptype) (by cases ptype <;> decide) s

end Expansion

/-- The numbers of blocks of R148, for sizes that are multiples of 16. -/
theorem blocks_eq {w h : Nat} (hw : w % 16 = 0) (hh : h % 16 = 0) :
    w / 8 * (h / 8) = w * h / 64 ∧ w / 2 / 8 * (h / 2 / 8) = w * h / 256 := by
  rw [Nat.div_div_eq_div_mul, Nat.div_div_eq_div_mul, Nat.div_mul_div_comm (by omega) (by omega),
    Nat.div_mul_div_comm (by omega) (by omega)]
  exact ⟨rfl, rfl⟩

/-- The table of R148, register by register. -/
theorem Ready.table {w h : Nat} {u : State} (hu : Ready (planesAfterFrame w h) u) (hw : w % 16 = 0) (hh : h % 16 = 0) :
    (∀ k < 12, isPlane (u.plane k) w h .fullsize) ∧
      (∀ k ∈ [12, 13, 15, 16, 18, 19], isPlane (u.plane k) (w / 2) (h / 2) .downsample) ∧
      (∀ k ∈ [14, 17], isPlane (u.plane k) w h .fullsize) ∧
      isPlane (u.plane 20) (w / 8) (h / 8) .dcdiff ∧
      (∀ k ∈ [21, 22], isPlane (u.plane k) (w / 16) (h / 16) .dcdiff) ∧
      isPlane (u.plane 23) 64 (w * h / 64) .zigzag ∧
      (∀ k ∈ [24, 25], isPlane (u.plane k) 64 (w * h / 256) .zigzag) := by
  obtain ⟨hluma, hchroma⟩ := blocks_eq hw hh
  have hw16 : w / 2 / 8 = w / 16 := Nat.div_div_eq_div_mul ..
  have hh16 : h / 2 / 8 = h / 16 := Nat.div_div_eq_div_mul ..
  rw [← hluma, ← hchroma, ← hw16, ← hh16]
  simp only [List.forall_mem_cons, List.not_mem_nil, false_imp_iff, implies_true, and_true]
  refine ⟨fun k hk => ?_, ⟨hu.plane rfl, hu.plane rfl, hu.plane rfl, hu.plane rfl, hu.plane rfl, hu.plane rfl⟩,
    ⟨hu.plane rfl, hu.plane rfl⟩, hu.plane rfl, ⟨hu.plane rfl, hu.plane rfl⟩, hu.plane rfl,
    ⟨hu.plane rfl, hu.plane rfl⟩⟩
  interval_cases k <;> exact hu.plane rfl

/-- A P-frame's motion search is the only stage that writes `MVB`, and step 0 has made it not valid. -/
theorem frameStages_mvb (s : State) :
    ((frameStages s).mvb.valid = true ↔ pType s) ∧
      (pType s → (frameStages s).mvb.w = (s.plane 6).w ∧ (frameStages s).mvb.h = (s.plane 6).h ∧
        (frameStages s).mvb.count = nmb (s.plane 6).w (s.plane 6).h) := by
  have hreference : (frameInvalidate s).plane 6 = s.plane 6 := by rw [frameInvalidate_plane, if_neg (by decide)]
  rw [← isPFrame_eq_true_iff, ← hreference, frameStages]
  cases s.isPFrame with
  | false => simp [effectsOf_mvb (is := expansion false) (by decide), frameInvalidate_mvb]
  | true =>
    obtain ⟨hvalid, hsearched⟩ := effectsOf_mest (is := expansion true) (before := .csc 0 0 :: smoothingStages)
      (a := 6) (b := 3) (js := .delta 9 6 3 :: codingStages) rfl (by decide) (by decide) (by decide) (frameInvalidate s)
    exact ⟨iff_of_true hvalid rfl, fun _ => hsearched⟩

theorem frameStages_above (s : State) {k : Nat} (hk : 26 ≤ k) : (frameStages s).plane k = s.plane k := by
  rw [frameStages, expansion_above _ _ hk, frameInvalidate_plane, if_neg (by omega)]

theorem frameStages_token_three (s : State) : (frameStages s).token 3 = s.token 3 := by
  rw [frameStages, expansion_token_three, frameInvalidate_token s (by decide), if_neg (by decide)]

theorem frameStages_tokens_valid (s : State) : ∀ k < 3, ((frameStages s).token k).valid = true :=
  expansion_tokens_valid s.isPFrame (frameInvalidate s)

theorem frameStages_copies {s : State} {w h : Nat}
    (hplanes : ∀ k < 12, isPlane ((frameStages s).plane k) w h .fullsize) :
    (frameStages s).plane 6 = (frameStages s).plane 3 ∧ (frameStages s).plane 7 = (frameStages s).plane 4 ∧
      (frameStages s).plane 8 = (frameStages s).plane 5 ∧ (frameStages s).plane 3 = (frameStages s).plane 0 :=
  expansion_copies s.isPFrame fun k hk => hplanes k ((by decide : ∀ k ∈ [0, 3, 4, 5], k < 12) k hk)

theorem Ready.of_withCount {ps : List (Nat × Nat × Nat × Tag)} {s : State} {c : Word} (hs : Ready ps (s.withCount c)) :
    Ready ps s := ⟨hs.running, hs.quality, hs.plane⟩

theorem frameStages_ready {s : State} (hrun : s.fault = false) (hready : frameReady s) :
    Ready (planesAfterFrame s.width.toNat s.height.toNat) (frameStages s) := by
  obtain ⟨u, hu, hplanes⟩ := exists_runAll_expansion hrun hready
  rw [eq_frameStages_withCount hrun hu] at hplanes
  exact hplanes.of_withCount

theorem frameAnswer_ftype (s u : State) : (frameAnswer s u).ftype = .pFrame ↔ pType s := by
  unfold frameAnswer pType
  split_ifs with hp <;> simp [hp]

/-- A P-frame reads the previous frame, whose size is that of the current one. -/
theorem frameSized_previous {s : State} (hsize : frameSized s) (hp : pType s) :
    (s.plane 6).w = s.width.toNat ∧ (s.plane 6).h = s.height.toNat := by
  rw [frameSized, frameReads, if_pos hp] at hsize
  exact hsize 6 (by decide)

/-- Settles O47: the sizes and tags are those the stages leave, the rest is what the stages write last or do not write. -/
theorem frameCompletesAndFillsItsRegisters : Obligations.FrameCompletesAndFillsItsRegisters := by
  intro s hrun hready w h
  have hexec := exec_frame hrun hready
  have hplanes := frameStages_ready hrun hready
  obtain ⟨⟨-, -, hw, hh, -⟩, -, -, hsize⟩ := hready
  obtain ⟨-, herr, hfcmd, -⟩ := frameStages_sequenceSame s
  obtain ⟨hfull, hdown, hcoded, hdcY, hdcC, hzigzagY, hzigzagC⟩ := hplanes.table hw hh
  obtain ⟨h6, h7, h8, h3⟩ := frameStages_copies hfull
  have htokens := frameStages_tokens_valid s
  have htoken3 := frameStages_token_three s
  have habove (k : Nat) (hk : 26 ≤ k) := frameStages_above s hk
  obtain ⟨hmvb, hsearched⟩ := frameStages_mvb s
  have hhost := noCommandWritesHostRegisters _ _ _ hexec
  generalize frameStages s = u at *
  refine ⟨frameAnswer s u, hexec, hhost, hplanes.running, herr, hfcmd, rfl, frameAnswer_ftype s u, rfl, rfl, hfull, hdown,
    hcoded, hdcY, hdcC, hzigzagY, hzigzagC, fun k hk _ => habove k hk, h6, h7, h8, h3, htokens, htoken3, hmvb,
    fun hp => ?vectors⟩
  obtain ⟨hmvbw, hmvbh, hcount⟩ := hsearched hp
  obtain ⟨hprevw, hprevh⟩ := frameSized_previous hsize hp
  rw [hprevw] at hmvbw hcount
  rw [hprevh] at hmvbh hcount
  exact ⟨hmvbw, hmvbh, hcount⟩

end Sys2Proof.Machine
end
